-- ==== Sys2Proof/Word.lean ====
section
/-! DEFINITION. The words of the block: every width that 00_scope.md rule R7 fixes, as bit vectors, and how a stored
integer is read from a word and written to it (00_scope.md rules R8 and R9). -/

namespace Sys2Proof

/-- A word of the host port and a single-width register: `W` = `DW` = `TW` = `CNTW` = 16 bits (R7). -/
abbrev Word := BitVec 16

/-- The accumulator `INTEG`: `AW` = 32 bits (R7). -/
abbrev AccWord := BitVec 32

/-- One stimulus word, 24 bits (30_encoding.md R80). -/
abbrev StimulusWord := BitVec 24

/-- A raw sample: `RAWW` = 10 bits (R7). -/
abbrev RawWord := BitVec 10

/-- A sampler channel number: `CHW` = 4 bits (R7). -/
abbrev Channel := BitVec 4

/-- A host register address: `ADW` = 4 bits (R7). -/
abbrev HostAddr := BitVec 4

end Sys2Proof
end

