-- ==== Sys2Proof/Syntax.lean ====
section
/-! DEFINITION. The stimuli of the block, one constructor of `Instr` for each row of spec/opcode_table.json, the names
of the sixteen host registers, and the reasons for which a 24-bit word is no stimulus. -/

namespace Sys2Proof

/-- The sixteen words of the host register space, in address order (20_memory.md R61). -/
inductive HostReg where
  | cmd | status | setpoint | kp | ki | outMin | outMax | period
  | pwmcfg | deadtime | channel | dutyOut | dutyActive | rawSample | missed | rsvd
  deriving DecidableEq, Repr

/-- The stimuli (00_scope.md R5, 30_encoding.md R83 to R86). -/
inductive Instr where
  /-- `RD a` (R170). -/
  | rd (a : HostReg)
  /-- `CMD NOP` (R173). -/
  | cmdNop
  /-- `CMD CONFIGURE` (R125). -/
  | cmdConfigure
  /-- `CMD START` (R126). -/
  | cmdStart
  /-- `CMD STOP` (R127). -/
  | cmdStop
  /-- `CMD ARM` (R155). -/
  | cmdArm
  /-- `CMD SMP_ARM` (R141). -/
  | cmdSmpArm
  /-- `CMD RSVD`, a reserved command code 0x0006 to 0xFFFF (R174). -/
  | cmdRsvd (code : Word)
  /-- `WR STATUS, d` (R175). -/
  | wrStatus (d : Word)
  /-- `WR SETPOINT, d` (R150). -/
  | wrSetpoint (d : Word)
  /-- `WR KP, d` (R151). -/
  | wrKp (d : Word)
  /-- `WR KI, d` (R152). -/
  | wrKi (d : Word)
  /-- `WR OUT_MIN, d` (R153). -/
  | wrOutMin (d : Word)
  /-- `WR OUT_MAX, d` (R154). -/
  | wrOutMax (d : Word)
  /-- `WR PERIOD, d` (R122). -/
  | wrPeriod (d : Word)
  /-- `WR PWMCFG, d` (R123). -/
  | wrPwmcfg (d : Word)
  /-- `WR DEADTIME, d` (R124). -/
  | wrDeadtime (d : Word)
  /-- `WR CHANNEL, d` (R140). -/
  | wrChannel (d : Word)
  /-- `WR DUTY_OUT, d`, to a read-only address (R176). -/
  | wrDutyOut (d : Word)
  /-- `WR DUTY_ACTIVE, d`, to a read-only address (R176). -/
  | wrDutyActive (d : Word)
  /-- `WR RAW_SAMPLE, d`, to a read-only address (R176). -/
  | wrRawSample (d : Word)
  /-- `WR MISSED, d`, to a read-only address (R176). -/
  | wrMissed (d : Word)
  /-- `WR RSVD, d`, to the reserved address 0xF (R177). -/
  | wrRsvd (d : Word)
  /-- `TICK raw` (R128). -/
  | tick (raw : RawWord)
  /-- `UPDATE` (R158). -/
  | update
  /-- `RESET` (R220). -/
  | reset
  deriving DecidableEq, Repr

/-- Why a 24-bit word is `INVALID`: the cases of 30_encoding.md R88 (a), in the order R87 meets them. -/
inductive InvalidWord where
  /-- `KIND` = 11. -/
  | reservedKind
  /-- Format E with `Z4` or `Z6` not zero. -/
  | eventPadding
  /-- `UPDATE` with a nonzero `RAW`. -/
  | rawOnUpdate
  /-- `RESET` with a nonzero `RAW`. -/
  | rawOnReset
  /-- Format E with `EV` = 11. -/
  | reservedEvent
  /-- Format H with `Z2` not zero. -/
  | hostPadding
  deriving DecidableEq, Repr

end Sys2Proof
end

