-- ==== Sys2Proof/WellFormed.lean ====
section
/-! DEFINITION. Which terms of `Instr` a decoded stimulus can be (30_encoding.md R85): every operand of every form takes
every value its field can hold, but for the code of `CMD RSVD`, which is none of the six codes that name a command. -/

namespace Sys2Proof

/-- The codes that R85 leaves to `CMD RSVD`: 0x0006 to 0xFFFF. -/
def reservedCode (code : Word) : Bool := decide (6 ≤ code.toNat)

/-- The well-formed stimuli. -/
def Instr.wellFormed : Instr → Bool
  | .cmdRsvd code => reservedCode code
  | .rd _ | .cmdNop | .cmdConfigure | .cmdStart | .cmdStop | .cmdArm | .cmdSmpArm
  | .wrStatus _ | .wrSetpoint _ | .wrKp _ | .wrKi _ | .wrOutMin _ | .wrOutMax _
  | .wrPeriod _ | .wrPwmcfg _ | .wrDeadtime _ | .wrChannel _
  | .wrDutyOut _ | .wrDutyActive _ | .wrRawSample _ | .wrMissed _ | .wrRsvd _
  | .tick _ | .update | .reset => true

end Sys2Proof
end

