-- ==== Sys2Proof/Decode.lean ====
section
/-! DEFINITION. Decoding of the 24-bit stimulus word (30_encoding.md R81, R82, R84 to R88), total on all 2^24 words, and
the encoder of R83 to R86. A word that R88 (a) calls `INVALID` is rejected with its reason. -/

namespace Sys2Proof

/-! ### Fields of the word (R81) -/

/-- `KIND`, bits 23:22. -/
def wordKind (w : StimulusWord) : BitVec 2 := w.extractLsb' 22 2

/-- `Z2` of format H and `EV` of format E, bits 21:20. -/
def wordEv (w : StimulusWord) : BitVec 2 := w.extractLsb' 20 2

/-- `ADDR` of format H, bits 19:16. -/
def wordAddr (w : StimulusWord) : HostAddr := w.extractLsb' 16 4

/-- `DATA` of format H, bits 15:0. -/
def wordData (w : StimulusWord) : Word := w.extractLsb' 0 16

/-- `Z4` and `Z6` of format E together, bits 19:10. -/
def wordPad (w : StimulusWord) : BitVec 10 := w.extractLsb' 10 10

/-- `RAW` of format E, bits 9:0. -/
def wordRaw (w : StimulusWord) : RawWord := w.extractLsb' 0 10

/-! ### Host registers and their addresses (20_memory.md R61) -/

/-- The register at a word address. -/
def HostReg.ofAddr (a : HostAddr) : HostReg :=
  match a.toNat with
  | 0x0 => .cmd
  | 0x1 => .status
  | 0x2 => .setpoint
  | 0x3 => .kp
  | 0x4 => .ki
  | 0x5 => .outMin
  | 0x6 => .outMax
  | 0x7 => .period
  | 0x8 => .pwmcfg
  | 0x9 => .deadtime
  | 0xA => .channel
  | 0xB => .dutyOut
  | 0xC => .dutyActive
  | 0xD => .rawSample
  | 0xE => .missed
  | _ => .rsvd

/-- The word address of a register. -/
def HostReg.addr : HostReg → HostAddr
  | .cmd => 0x0#4
  | .status => 0x1#4
  | .setpoint => 0x2#4
  | .kp => 0x3#4
  | .ki => 0x4#4
  | .outMin => 0x5#4
  | .outMax => 0x6#4
  | .period => 0x7#4
  | .pwmcfg => 0x8#4
  | .deadtime => 0x9#4
  | .channel => 0xA#4
  | .dutyOut => 0xB#4
  | .dutyActive => 0xC#4
  | .rawSample => 0xD#4
  | .missed => 0xE#4
  | .rsvd => 0xF#4

/-! ### Decoding (R87) -/

/-- The command a code names; all sixteen bits are compared (R85, 44_host_port.md R172). -/
def decodeCommand (code : Word) : Instr :=
  match code.toNat with
  | 0 => .cmdNop
  | 1 => .cmdConfigure
  | 2 => .cmdStart
  | 3 => .cmdStop
  | 4 => .cmdArm
  | 5 => .cmdSmpArm
  | _ => .cmdRsvd code

/-- The instruction a host write is, by its address (R84). -/
def decodeWrite (a : HostReg) (d : Word) : Instr :=
  match a with
  | .cmd => decodeCommand d
  | .status => .wrStatus d
  | .setpoint => .wrSetpoint d
  | .kp => .wrKp d
  | .ki => .wrKi d
  | .outMin => .wrOutMin d
  | .outMax => .wrOutMax d
  | .period => .wrPeriod d
  | .pwmcfg => .wrPwmcfg d
  | .deadtime => .wrDeadtime d
  | .channel => .wrChannel d
  | .dutyOut => .wrDutyOut d
  | .dutyActive => .wrDutyActive d
  | .rawSample => .wrRawSample d
  | .missed => .wrMissed d
  | .rsvd => .wrRsvd d

/-- Step (2) of R87: a word with `KIND` = 10. -/
def decodeEvent (w : StimulusWord) : Except InvalidWord Instr :=
  if wordPad w ≠ 0#10 then .error .eventPadding
  else if wordEv w = 0#2 then .ok (.tick (wordRaw w))
  else if wordEv w = 1#2 then (if wordRaw w = 0#10 then .ok .update else .error .rawOnUpdate)
  else if wordEv w = 2#2 then (if wordRaw w = 0#10 then .ok .reset else .error .rawOnReset)
  else .error .reservedEvent

/-- Step (3) of R87: a word with `KIND` = 00 or 01. The `DATA` of an `RD` is ignored. -/
def decodeHost (w : StimulusWord) : Except InvalidWord Instr :=
  if wordEv w ≠ 0#2 then .error .hostPadding
  else if wordKind w = 0#2 then .ok (.rd (HostReg.ofAddr (wordAddr w)))
  else .ok (decodeWrite (HostReg.ofAddr (wordAddr w)) (wordData w))

/-- The decoder, in the order of R87. -/
def decode (w : StimulusWord) : Except InvalidWord Instr :=
  if wordKind w = 3#2 then .error .reservedKind
  else if wordKind w = 2#2 then decodeEvent w
  else decodeHost w

/-! ### Encoding (R83 to R86) -/

/-- A word of format H (R81). -/
def hostWord (kind : BitVec 2) (a : HostReg) (d : Word) : StimulusWord := kind ++ 0#2 ++ a.addr ++ d

/-- A word of format E (R81). -/
def eventWord (ev : BitVec 2) (raw : RawWord) : StimulusWord := 2#2 ++ ev ++ 0#10 ++ raw

/-- The canonical word of a stimulus: the patterns of R83 to R86. -/
def encode : Instr → StimulusWord
  | .rd a => hostWord 0#2 a 0#16
  | .cmdNop => hostWord 1#2 .cmd 0#16
  | .cmdConfigure => hostWord 1#2 .cmd 1#16
  | .cmdStart => hostWord 1#2 .cmd 2#16
  | .cmdStop => hostWord 1#2 .cmd 3#16
  | .cmdArm => hostWord 1#2 .cmd 4#16
  | .cmdSmpArm => hostWord 1#2 .cmd 5#16
  | .cmdRsvd code => hostWord 1#2 .cmd code
  | .wrStatus d => hostWord 1#2 .status d
  | .wrSetpoint d => hostWord 1#2 .setpoint d
  | .wrKp d => hostWord 1#2 .kp d
  | .wrKi d => hostWord 1#2 .ki d
  | .wrOutMin d => hostWord 1#2 .outMin d
  | .wrOutMax d => hostWord 1#2 .outMax d
  | .wrPeriod d => hostWord 1#2 .period d
  | .wrPwmcfg d => hostWord 1#2 .pwmcfg d
  | .wrDeadtime d => hostWord 1#2 .deadtime d
  | .wrChannel d => hostWord 1#2 .channel d
  | .wrDutyOut d => hostWord 1#2 .dutyOut d
  | .wrDutyActive d => hostWord 1#2 .dutyActive d
  | .wrRawSample d => hostWord 1#2 .rawSample d
  | .wrMissed d => hostWord 1#2 .missed d
  | .wrRsvd d => hostWord 1#2 .rsvd d
  | .tick raw => eventWord 0#2 raw
  | .update => eventWord 1#2 0#10
  | .reset => eventWord 2#2 0#10

/-! ### The host's numbering of a word's bits -/

/-- The word whose `nbits` low bits are those of `w`, every bit above them 0. -/
def tableWord (nbits w : Nat) : StimulusWord := BitVec.ofNat 24 (w % 2 ^ nbits)

/-- What the decoder reads from a word numbered as spec/opcode_table.json numbers it. The stimulus word is one 24-bit
unit that is stored nowhere (R80, 20_memory.md R62), so its bits are the number's bits. -/
def decodeTableWord (nbits w : Nat) : Option Instr :=
  match decode (tableWord nbits w) with
  | .ok i => some i
  | .error _ => none

end Sys2Proof
end

