-- ==== Sys2Proof/Config.lean ====
section
/-! DEFINITION. The parameters of 00_scope.md rule R7: the fixed widths of the arithmetic, the four OPEN parameters as a
record with the defaults this hardware takes, and the one free value of the model. -/

namespace Sys2Proof.Config

/-- `W`, the single width in bits of a FixedPoint register (R7). -/
abbrev W : Nat := 16

/-- `F`, the fraction bits of the single-width format Q15 (R7). -/
abbrev F : Nat := 15

/-- `AW`, the width in bits of the accumulator (R7). -/
abbrev AW : Nat := 32

/-- `AF`, the fraction bits of the accumulator format Q30 (R7, D5). -/
abbrev AF : Nat := 30

/-- The four OPEN parameters of R7 (D10, D12). An operation that depends on one takes this record as an argument, so
that a claim can quantify over it. -/
structure Params where
  /-- `RAW_SHIFT`, the left shift of `to_fixed`. -/
  rawShift : Nat
  /-- `RAW_BIAS`, the bias `to_fixed` subtracts before the shift. -/
  rawBias : Int
  /-- `PERIOD_MIN`, the least `period_ticks` the generator supports. -/
  periodMin : Nat
  /-- `PERIOD_MAX`, the greatest `period_ticks` the generator supports. -/
  periodMax : Nat
  deriving DecidableEq, Repr

/-- The defaults of R7, which the spec gives as the values this hardware takes. UNVERIFIED (log 6): the spec marks the
four OPEN; unsafe for a block with another calibration or another supported range. -/
def params : Params := { rawShift := 5, rawBias := 0, periodMin := 1, periodMax := 32767 }

/-- A FREE VALUE (log 8): what `PHASE` holds after a tick whose count does not fit its 16 bits. No reachable state has
such a tick (10_state.md R38 b); R9 asks that a written value be in range and says nothing of one that is not. -/
opaque phaseOutOfRange : Nat → Word

end Sys2Proof.Config
end

