-- ==== Sys2Proof/Machine/State.lean ====
section
/-! DEFINITION. The state of the block: the components of 10_state.md R20, each under the spec's name, and three fields
of the model's own (the stimuli still to arrive, the word the last read returned, the trigger pulse); the reset state;
the reasons for which a step can stop; the conditions of 60_exceptions.md R190. -/

namespace Sys2Proof.Machine

/-- `PWMCFG.MODE` (R26): 0 edge-aligned, 1 center-aligned. -/
inductive CarrierMode where
  | edge
  | center
  deriving DecidableEq, Repr

/-- `PWMCFG.POL` (R26): 0 active-high, 1 active-low. -/
inductive Polarity where
  | activeHigh
  | activeLow
  deriving DecidableEq, Repr

/-- `PWM_STATE` (R28), codes 0, 1, 2; code 3 cannot be formed (93_implementation_defined.md U5). -/
inductive PwmState where
  | idle
  | configuring
  | running
  deriving DecidableEq, Repr

/-- `ENG_STATE` (R29), codes 0, 1, 2; code 3 cannot be formed (93_implementation_defined.md U5). -/
inductive EngState where
  | uninitialized
  | armed
  | running
  deriving DecidableEq, Repr

/-- `INIT` (R30): which of the four registers the host has written since reset. -/
structure InitFlags where
  /-- `INIT[0]`, `KP` written. -/
  kp : Bool
  /-- `INIT[1]`, `KI` written. -/
  ki : Bool
  /-- `INIT[2]`, `OUT_MIN` written. -/
  outMin : Bool
  /-- `INIT[3]`, `OUT_MAX` written. -/
  outMax : Bool
  deriving DecidableEq, Repr

/-- The state: R20, and the model's own fields `stimuli`, `readData` and `trigger`. -/
structure State where
  /-- `SETPOINT`, signed Q15 (R21). -/
  setpoint : Word
  /-- `KP`, signed Q15 (R21). -/
  kp : Word
  /-- `KI`, signed Q15 (R21). -/
  ki : Word
  /-- `OUT_MIN`, signed Q15 (R21). -/
  outMin : Word
  /-- `OUT_MAX`, signed Q15 (R21). -/
  outMax : Word
  /-- `INTEG`, signed Q30 (R23). -/
  integ : AccWord
  /-- `DUTY_OUT`, signed Q15 (R25). -/
  dutyOut : Word
  /-- `DUTY_SHADOW`, unsigned ticks (R24). -/
  dutyShadow : Word
  /-- `DUTY_ACTIVE`, unsigned ticks (R24). -/
  dutyActive : Word
  /-- `PERIOD`, unsigned ticks (R26). -/
  period : Word
  /-- `PWMCFG.MODE` (R26). -/
  mode : CarrierMode
  /-- `PWMCFG.POL` (R26). -/
  pol : Polarity
  /-- `DEADTIME`, unsigned ticks (R26). -/
  deadtime : Word
  /-- `PHASE`, unsigned ticks (R27). -/
  phase : Word
  /-- `PWM_STATE` (R28). -/
  pwmState : PwmState
  /-- `ENG_STATE` (R29). -/
  engState : EngState
  /-- `INIT` (R30). -/
  init : InitFlags
  /-- `CHANNEL` (R31). -/
  channel : Channel
  /-- `SMP_CH` (R31). -/
  smpCh : Channel
  /-- `SMP_ARMED` (R31). -/
  smpArmed : Bool
  /-- `RAW_SAMPLE` (R32). -/
  rawSample : RawWord
  /-- `SAMPLE_PENDING` (R32). -/
  samplePending : Bool
  /-- `MISSED` (R33). -/
  missed : Word
  /-- `SAT`, live (R35). -/
  sat : Bool
  /-- `SAT_I`, live (R35). -/
  satI : Bool
  /-- `SAT_D`, live (R35). -/
  satD : Bool
  /-- `SAT_STICKY` (R35). -/
  satSticky : Bool
  /-- `CFG_ERR` (R35). -/
  cfgErr : Bool
  /-- `CMD_REJ` (R35). -/
  cmdRej : Bool
  /-- The model's own (log 1): the stimulus words the agents have still to deliver, the next one first. -/
  stimuli : List StimulusWord
  /-- The model's own (log 2): the word on the host port after a read, and none after any other stimulus. -/
  readData : Option Word
  /-- The model's own (log 3): the output pulse `trigger` of R41, true after a tick that fired the trigger. -/
  trigger : Bool
  deriving DecidableEq, Repr

/-- The state after `RESET` (R37, 70_reset_and_hazards.md R220): every piece of state 0, and no stimulus waiting. -/
def State.reset : State where
  setpoint := 0x0000
  kp := 0x0000
  ki := 0x0000
  outMin := 0x0000
  outMax := 0x0000
  integ := 0x00000000
  dutyOut := 0x0000
  dutyShadow := 0x0000
  dutyActive := 0x0000
  period := 0x0000
  mode := .edge
  pol := .activeHigh
  deadtime := 0x0000
  phase := 0x0000
  pwmState := .idle
  engState := .uninitialized
  init := { kp := false, ki := false, outMin := false, outMax := false }
  channel := 0x0
  smpCh := 0x0
  smpArmed := false
  rawSample := 0x000
  samplePending := false
  missed := 0x0000
  sat := false
  satI := false
  satD := false
  satSticky := false
  cfgErr := false
  cmdRej := false
  stimuli := []
  readData := none
  trigger := false

/-- The conditions of 60_exceptions.md R190, with what each one records. None diverts anything. -/
inductive Condition where
  /-- InvalidConfig (R191), of `CMD CONFIGURE` and `CMD START`. -/
  | invalidConfig
  /-- MissedSample (R192), of a capture. -/
  | missedSample
  /-- SaturationEngaged (R193), of an update: what it found at the integrator and at the duty. Every update that runs
  reports it, with false where nothing saturated, since the live bits are rewritten to 1 or to 0. -/
  | saturationEngaged (integ duty : Bool)
  /-- CommandRejected (R194), of a host write or command. -/
  | commandRejected
  deriving DecidableEq, Repr

/-- The outputs of R41. -/
structure Outputs where
  /-- `duty_active[15:0]`. -/
  dutyActive : Word
  /-- `deadtime[15:0]`. -/
  deadtime : Word
  /-- `polarity`. -/
  polarity : Polarity
  /-- `carrier_run`. -/
  carrierRun : Bool
  /-- `adc_channel[3:0]`. -/
  adcChannel : Channel
  /-- `update_req`. -/
  updateReq : Bool
  /-- `trigger`, the one-step pulse. -/
  trigger : Bool
  deriving DecidableEq, Repr

/-- The faults of the machine: none. "Faults: none; the block never traps, hangs or produces an undefined result"
(00_scope.md R12), so the type has no constructor and no step can end in one. -/
inductive Fault where
  deriving DecidableEq, Repr

/-- Why a step has no meaning. -/
inductive Refusal where
  /-- Raised by an arm of `exec` for an instruction that has no meaning yet; no arm does. Safe: nothing is claimed of
  the instruction. -/
  | notModelled (mnemonic : String)
  /-- Raised by `step` for a word that the decoder finds `INVALID`, as 30_encoding.md R88 and 44_host_port.md R178 ask.
  Safe: a claim about a run that holds such a word cannot be proved from it. -/
  | invalidStimulus (why : InvalidWord)
  deriving DecidableEq, Repr

end Sys2Proof.Machine
end

