-- ==== Sys2Proof/Machine/Flags.lean ====
section
/-! DEFINITION. The flags: the codes of the enumerations, the read view `STATUS` (10_state.md R35), the write that
clears sticky bits (44_host_port.md R175), and the saturation flags of an update (43_engine.md R159). -/

namespace Sys2Proof.Machine

/-- The code of `MODE` (R26). -/
def CarrierMode.code : CarrierMode → BitVec 1
  | .edge => 0
  | .center => 1

/-- The code of `POL` (R26). -/
def Polarity.code : Polarity → BitVec 1
  | .activeHigh => 0
  | .activeLow => 1

/-- The code of `PWM_STATE` (R28). -/
def PwmState.code : PwmState → BitVec 2
  | .idle => 0
  | .configuring => 1
  | .running => 2

/-- The code of `ENG_STATE` (R29). -/
def EngState.code : EngState → BitVec 2
  | .uninitialized => 0
  | .armed => 1
  | .running => 2

/-- `INIT[3:0]` (R30). -/
def InitFlags.bits (f : InitFlags) : BitVec 4 :=
  BitVec.ofBool f.outMax ++ BitVec.ofBool f.outMin ++ BitVec.ofBool f.ki ++ BitVec.ofBool f.kp

/-- `INIT = 0b1111` (R155). -/
def InitFlags.all (f : InitFlags) : Bool := f.kp && f.ki && f.outMin && f.outMax

/-- `STATUS` (R35, R170). -/
def statusWord (s : State) : Word :=
  s.init.bits ++ BitVec.ofBool s.cmdRej ++ BitVec.ofBool s.cfgErr ++ BitVec.ofBool s.satSticky
    ++ BitVec.ofBool s.satD ++ BitVec.ofBool s.satI ++ BitVec.ofBool s.sat
    ++ BitVec.ofBool s.samplePending ++ BitVec.ofBool s.smpArmed ++ s.pwmState.code ++ s.engState.code

/-- `WR STATUS, d` (R175): the sticky bits that `d` has a one for are cleared. -/
def clearSticky (d : Word) (s : State) : State :=
  { s with
    satSticky := s.satSticky && !d.getLsbD 9
    cfgErr := s.cfgErr && !d.getLsbD 10
    cmdRej := s.cmdRej && !d.getLsbD 11 }

/-- The flags after an update that found `integ` at the integrator and `duty` at the duty (R158, R159, R193): the live
bits rewritten, the sticky bit set and never cleared. -/
def recordSaturation (integ duty : Bool) (s : State) : State :=
  { s with
    satI := integ
    satD := duty
    sat := integ || duty
    satSticky := s.satSticky || (integ || duty) }

end Sys2Proof.Machine
end

