-- ==== Sys2Proof/Machine/Operands.lean ====
section
/-! DEFINITION. Operand forms (30_encoding.md R82) and the host read of every register (44_host_port.md R170). -/

namespace Sys2Proof.Machine

/-- The field `d[0]` = `MODE` of a word written to `PWMCFG` (41_waveform.md R123). -/
def modeOf (d : Word) : CarrierMode := if d.getLsbD 0 then .center else .edge

/-- The field `d[1]` = `POL` of a word written to `PWMCFG` (41_waveform.md R123). -/
def polOf (d : Word) : Polarity := if d.getLsbD 1 then .activeLow else .activeHigh

/-- The field `d[3:0]` of a word written to `CHANNEL` (42_sampler.md R140). -/
def channelOf (d : Word) : Channel := d.extractLsb' 0 4

/-- The word a host read of a register returns (20_memory.md R61, R170). -/
def readHost (a : HostReg) (s : State) : Word :=
  match a with
  | .cmd => 0
  | .status => statusWord s
  | .setpoint => s.setpoint
  | .kp => s.kp
  | .ki => s.ki
  | .outMin => s.outMin
  | .outMax => s.outMax
  | .period => s.period
  | .pwmcfg => 0#14 ++ s.pol.code ++ s.mode.code
  | .deadtime => s.deadtime
  | .channel => 0#12 ++ s.channel
  | .dutyOut => s.dutyOut
  | .dutyActive => s.dutyActive
  | .rawSample => 0#6 ++ s.rawSample
  | .missed => s.missed
  | .rsvd => 0

end Sys2Proof.Machine
end

