-- ==== Sys2Proof/Machine/Fpuq.lean ====
section
/-! DEFINITION. The Fixed-Point Arithmetic Unit FPU-Q (40_fpuq.md R100 to R109): pure functions on stored integers. A
function that can saturate returns its result and whether it saturated. -/

namespace Sys2Proof.Machine

/-- `clamp(x, lo, hi)` (R101), the low bound tested first. -/
def clamp (x lo hi : Int) : Int × Bool :=
  if x < lo then (lo, true) else if hi < x then (hi, true) else (x, false)

/-- `saturate(x, bits)` (R100): a clamp to the range of a signed number of that width. -/
def sat (x : Int) (bits : Nat) : Int × Bool :=
  clamp x (-(2 ^ (bits - 1))) (2 ^ (bits - 1) - 1)

/-- `rnd_shr(x, k)` (R102): the rounding right shift, ties toward +infinity. -/
def rndShr (x : Int) (k : Nat) : Int := (x + 2 ^ (k - 1)) / 2 ^ k

/-- `mul(a, b)` (R103). -/
def mul (a b : Int) : Int × Bool := sat (rndShr (a * b) Config.F) Config.W

/-- `mac(a, b, acc)` (R104): the product enters the accumulator at its own scale, unrounded. -/
def mac (a b acc : Int) : Int × Bool := sat (acc + a * b) Config.AW

/-- `sub_sat(a, b)` (R105). -/
def subSat (a b : Int) : Int × Bool := sat (a - b) Config.W

/-- `to_fixed(raw)` (R106), with the calibration of the parameters. -/
def toFixed (p : Config.Params) (raw : Nat) : Int :=
  (sat (((raw : Int) - p.rawBias) * 2 ^ p.rawShift) Config.W).1

/-- `from_fixed(fb)`, the inverse that R106 gives for the round trip. -/
def fromFixed (p : Config.Params) (fb : Int) : Int := fb / 2 ^ p.rawShift + p.rawBias

/-- `to_acc(v)` (R107): a Q15 value in the accumulator's scale. -/
def toAcc (v : Int) : Int := v * 2 ^ Config.F

/-- `from_acc(x)` (R108): an accumulator value rescaled to Q15, not saturated. -/
def fromAcc (x : Int) : Int := rndShr x Config.F

/-- `to_ticks(d, R)` (R109): the tick count, and whether a negative duty was floored to 0. -/
def toTicks (d : Int) (range : Nat) : Nat × Bool := (d.toNat * range / 2 ^ Config.F, decide (d < 0))

end Sys2Proof.Machine
end

