-- ==== Sys2Proof/Machine/Ops.lean ====
section
/-! DEFINITION. The shared operations: recording a condition (what the block has in place of taking an exception), the
update request, the quantities derived from the carrier configuration, the duty capture, the sample capture, the
outputs, and the arrival of a stimulus. -/

namespace Sys2Proof.Machine

/-! ### Conditions (60_exceptions.md R190 to R194) -/

/-- `raise <Condition>`: the recording action and nothing more (R190). Nothing is saved, no mode changes and nothing
returns (R198, R199). -/
def raise (c : Condition) (s : State) : State :=
  match c with
  | .invalidConfig => { s with cfgErr := true, pwmState := .idle }
  | .missedSample => { s with missed := BitVec.ofNat 16 (min (s.missed.toNat + 1) 65535) }
  | .saturationEngaged integ duty => recordSaturation integ duty s
  | .commandRejected => { s with cmdRej := true }

/-- `update_req` (R195, 43_engine.md R157). -/
def updateReq (s : State) : Bool := s.samplePending && decide (s.engState ≠ .uninitialized)

/-! ### The carrier (41_waveform.md) -/

/-- The carrier range `R` (R120). -/
def carrierRange (s : State) : Nat :=
  match s.mode with
  | .edge => s.period.toNat
  | .center => 2 * s.period.toNat

/-- `valid_config()` (R121). -/
def validConfig (p : Config.Params) (s : State) : Bool :=
  decide (p.periodMin ≤ s.period.toNat) && decide (s.period.toNat ≤ p.periodMax)
    && decide (2 * s.deadtime.toNat ≤ s.period.toNat)

/-- Whether the next tick is a rollover (R128). -/
def rollsOver (s : State) : Bool := decide (carrierRange s ≤ s.phase.toNat + 1)

/-- The number of ticks since the period boundary after the next tick (R128). -/
def nextPhase (s : State) : Nat := if rollsOver s then 0 else s.phase.toNat + 1

/-- Whether the next tick fires the trigger (R128, R130). -/
def fires (s : State) : Bool :=
  match s.mode with
  | .edge => rollsOver s
  | .center => decide (nextPhase s = s.period.toNat)

/-- The word `PHASE` holds for a tick number; where the number does not fit the register, which no reachable state
gives, a free value (log 8). -/
def phaseWord (v : Nat) : Word := if v < 65536 then BitVec.ofNat 16 v else Config.phaseOutOfRange v

/-- `latch_value()` (R129). -/
def latchValue (s : State) : Nat := min s.dutyShadow.toNat (carrierRange s)

/-- `DUTY_ACTIVE <- latch_value()`, the duty capture at a period boundary (R129). -/
def latchDuty (s : State) : State := { s with dutyActive := BitVec.ofNat 16 (latchValue s) }

/-- `set_duty(ticks)` (R131). -/
def setDuty (ticks : Nat) (s : State) : State := { s with dutyShadow := BitVec.ofNat 16 (min ticks 65535) }

/-! ### The sampler (42_sampler.md) -/

/-- `capture(raw)` (R142): a sample still pending is counted as missed and overwritten. -/
def capture (raw : RawWord) (s : State) : State :=
  let counted := if s.samplePending then raise .missedSample s else s
  { counted with rawSample := raw, samplePending := true }

/-! ### The boundary of the block -/

/-- The outputs of 10_state.md R41, with no logic in between. -/
def outputs (s : State) : Outputs where
  dutyActive := s.dutyActive
  deadtime := s.deadtime
  polarity := s.pol
  carrierRun := decide (s.pwmState = .running)
  adcChannel := s.smpCh
  updateReq := updateReq s
  trigger := s.trigger

/-- The end of the one-step outputs of the stimulus before: the pulse falls and the host port shows no word (log 2,
log 3). -/
def lowerOutputs (s : State) : State := { s with readData := none, trigger := false }

/-- The arrival of the next stimulus: it leaves the list of those still to come (log 1), and the one-step outputs of the
one before end. -/
def accept (rest : List StimulusWord) (s : State) : State := { lowerOutputs s with stimuli := rest }

/-- A stimulus put before all those still to come. -/
def deliver (w : StimulusWord) (s : State) : State := { s with stimuli := w :: s.stimuli }

end Sys2Proof.Machine
end

