-- ==== Sys2Proof/Machine/Engine.lean ====
section
/-! DEFINITION. The Control Law Engine (43_engine.md R150 to R159): the ControllerState writes, arming, and the seven
steps of the update, one definition a step, each reading the state as it stands when the update begins. -/

namespace Sys2Proof.Machine

/-! ### ControllerState writes -/

/-- `WR SETPOINT, d` (R150). -/
def execWrSetpoint (d : Word) (s : State) : Host.Outcome State Fault Refusal := .next { s with setpoint := d }

/-- `WR KP, d` (R151). -/
def execWrKp (d : Word) (s : State) : Host.Outcome State Fault Refusal :=
  .next { s with kp := d, init := { s.init with kp := true } }

/-- `WR KI, d` (R152). -/
def execWrKi (d : Word) (s : State) : Host.Outcome State Fault Refusal :=
  .next { s with ki := d, init := { s.init with ki := true } }

/-- `WR OUT_MIN, d` (R153). -/
def execWrOutMin (d : Word) (s : State) : Host.Outcome State Fault Refusal :=
  if s.engState = .uninitialized then .next { s with outMin := d, init := { s.init with outMin := true } }
  else .next (raise .commandRejected s)

/-- `WR OUT_MAX, d` (R154). -/
def execWrOutMax (d : Word) (s : State) : Host.Outcome State Fault Refusal :=
  if s.engState = .uninitialized then .next { s with outMax := d, init := { s.init with outMax := true } }
  else .next (raise .commandRejected s)

/-! ### Arming -/

/-- The condition of `CMD ARM` (R155). -/
def canArm (s : State) : Bool :=
  decide (s.engState = .uninitialized) && s.init.all && decide (s.outMin.toInt ≤ s.outMax.toInt)

/-- `CMD ARM` (R155). -/
def execCmdArm (s : State) : Host.Outcome State Fault Refusal :=
  if canArm s then .next { s with engState := .armed } else .next (raise .commandRejected s)

/-! ### The seven steps of the update (R158) -/

/-- Step 1, `fb` and `e`: the error, saturated (R105, R106). -/
def updateError (p : Config.Params) (s : State) : Int :=
  (subSat s.setpoint.toInt (toFixed p s.rawSample.toNat)).1

/-- Step 2, `(acc, msat)`. -/
def updateAccum (p : Config.Params) (s : State) : Int × Bool := mac (updateError p s) s.ki.toInt s.integ.toInt

/-- Step 3, `(i, iclamp)`: the anti-windup clamp in the accumulator's scale. -/
def updateInteg (p : Config.Params) (s : State) : Int × Bool :=
  clamp (updateAccum p s).1 (toAcc s.outMin.toInt) (toAcc s.outMax.toInt)

/-- Step 4, `p`: the proportional term. -/
def updateProp (p : Config.Params) (s : State) : Int := (mul (updateError p s) s.kp.toInt).1

/-- Step 5, `ro`: the sum at Q15, after the integrator was clamped (R161). -/
def updateRaw (p : Config.Params) (s : State) : Int := updateProp p s + fromAcc (updateInteg p s).1

/-- Step 6, `(d, dsat)`. -/
def updateDuty (p : Config.Params) (s : State) : Int × Bool := sat (updateRaw p s) Config.W

/-- Step 7, `(ticks, floored)`. -/
def updateTicks (p : Config.Params) (s : State) : Nat × Bool := toTicks (updateDuty p s).1 (carrierRange s)

/-- `SAT_I` of the update (R159): the accumulator saturated or the clamp changed the value. -/
def updateSatI (p : Config.Params) (s : State) : Bool := (updateAccum p s).2 || (updateInteg p s).2

/-- `SAT_D` of the update (R159): step 6 changed the value or step 7 floored it. -/
def updateSatD (p : Config.Params) (s : State) : Bool := (updateDuty p s).2 || (updateTicks p s).2

/-- The state after an update that runs. -/
def applyUpdate (p : Config.Params) (s : State) : State :=
  raise (.saturationEngaged (updateSatI p s) (updateSatD p s))
    (setDuty (updateTicks p s).1
      { s with
        integ := BitVec.ofInt 32 (updateInteg p s).1
        dutyOut := BitVec.ofInt 16 (updateDuty p s).1
        samplePending := false
        engState := .running })

/-- `UPDATE` (R157, R158), for any parameters. -/
def execUpdateWith (p : Config.Params) (s : State) : Host.Outcome State Fault Refusal :=
  if updateReq s then .next (applyUpdate p s) else .next s

/-- `UPDATE` (R158). -/
def execUpdate (s : State) : Host.Outcome State Fault Refusal := execUpdateWith Config.params s

end Sys2Proof.Machine
end

