-- ==== Sys2Proof/Machine/HostPort.lean ====
section
/-! DEFINITION. The host port instructions (44_host_port.md): `RD`, `CMD NOP`, `CMD RSVD`, `WR STATUS` and the writes
that are always rejected. -/

namespace Sys2Proof.Machine

/-- `RD a` (R170): the word appears on the host port; no state of the block changes. -/
def execRd (a : HostReg) (s : State) : Host.Outcome State Fault Refusal :=
  .next { s with readData := some (readHost a s) }

/-- `CMD NOP` (R173). -/
def execCmdNop (s : State) : Host.Outcome State Fault Refusal := .next s

/-- `CMD RSVD` (R174). The code is unused. -/
def execCmdRsvd (_code : Word) (s : State) : Host.Outcome State Fault Refusal := .next (raise .commandRejected s)

/-- `WR STATUS, d` (R175). -/
def execWrStatus (d : Word) (s : State) : Host.Outcome State Fault Refusal := .next (clearSticky d s)

/-- `WR DUTY_OUT, d` (R176): a read-only address. -/
def execWrDutyOut (_d : Word) (s : State) : Host.Outcome State Fault Refusal := .next (raise .commandRejected s)

/-- `WR DUTY_ACTIVE, d` (R176): a read-only address. -/
def execWrDutyActive (_d : Word) (s : State) : Host.Outcome State Fault Refusal := .next (raise .commandRejected s)

/-- `WR RAW_SAMPLE, d` (R176): a read-only address. -/
def execWrRawSample (_d : Word) (s : State) : Host.Outcome State Fault Refusal := .next (raise .commandRejected s)

/-- `WR MISSED, d` (R176): a read-only address. -/
def execWrMissed (_d : Word) (s : State) : Host.Outcome State Fault Refusal := .next (raise .commandRejected s)

/-- `WR RSVD, d` (R177): the reserved address 0xF. -/
def execWrRsvd (_d : Word) (s : State) : Host.Outcome State Fault Refusal := .next (raise .commandRejected s)

end Sys2Proof.Machine
end

