-- ==== Sys2Proof/Machine/Reset.lean ====
section
/-! DEFINITION. `RESET` (70_reset_and_hazards.md R220). -/

namespace Sys2Proof.Machine

/-- `RESET` (R220): every piece of state of R20 takes its reset value and the outputs are 0 (R221). The stimuli still to
come are the agents', not the block's, and stay (log 1). -/
def execReset (s : State) : Host.Outcome State Fault Refusal := .next { State.reset with stimuli := s.stimuli }

end Sys2Proof.Machine
end

