-- ==== Sys2Proof/Machine/Sampler.lean ====
section
/-! DEFINITION. The capture side of the Synchronized Sampler (42_sampler.md R140, R141); `capture` is in Ops. -/

namespace Sys2Proof.Machine

/-- `WR CHANNEL, d` (R140). -/
def execWrChannel (d : Word) (s : State) : Host.Outcome State Fault Refusal :=
  .next { s with channel := channelOf d }

/-- `CMD SMP_ARM` (R141). -/
def execCmdSmpArm (s : State) : Host.Outcome State Fault Refusal :=
  .next { s with smpCh := s.channel, smpArmed := true }

end Sys2Proof.Machine
end

