-- ==== Sys2Proof/Machine/Waveform.lean ====
section
/-! DEFINITION. The Waveform Generator (41_waveform.md R122 to R130): the carrier configuration writes, the carrier
commands and the carrier tick. -/

namespace Sys2Proof.Machine

/-- `WR PERIOD, d` (R122). -/
def execWrPeriod (d : Word) (s : State) : Host.Outcome State Fault Refusal :=
  if s.pwmState = .running then .next (raise .commandRejected s) else .next { s with period := d }

/-- `WR PWMCFG, d` (R123). -/
def execWrPwmcfg (d : Word) (s : State) : Host.Outcome State Fault Refusal :=
  if s.pwmState = .running then .next (raise .commandRejected s)
  else .next { s with mode := modeOf d, pol := polOf d }

/-- `WR DEADTIME, d` (R124). -/
def execWrDeadtime (d : Word) (s : State) : Host.Outcome State Fault Refusal :=
  if s.pwmState = .running then .next (raise .commandRejected s) else .next { s with deadtime := d }

/-- `CMD CONFIGURE` (R125), for any parameters. -/
def execCmdConfigureWith (p : Config.Params) (s : State) : Host.Outcome State Fault Refusal :=
  if s.pwmState = .running then .next (raise .commandRejected s)
  else if validConfig p s then .next { s with pwmState := .configuring }
  else .next (raise .invalidConfig s)

/-- `CMD CONFIGURE` (R125). -/
def execCmdConfigure (s : State) : Host.Outcome State Fault Refusal := execCmdConfigureWith Config.params s

/-- `CMD START` (R126), for any parameters. The start of the carrier is a period boundary. -/
def execCmdStartWith (p : Config.Params) (s : State) : Host.Outcome State Fault Refusal :=
  match s.pwmState with
  | .running => .next s
  | .configuring =>
    if validConfig p s then .next (latchDuty { s with pwmState := .running, phase := 0 })
    else .next (raise .invalidConfig s)
  | .idle => .next (raise .commandRejected s)

/-- `CMD START` (R126). -/
def execCmdStart (s : State) : Host.Outcome State Fault Refusal := execCmdStartWith Config.params s

/-- `CMD STOP` (R127). -/
def execCmdStop (s : State) : Host.Outcome State Fault Refusal :=
  match s.pwmState with
  | .running | .configuring => .next { s with pwmState := .idle, phase := 0 }
  | .idle => .next s

/-- The carrier's own part of a tick (R128): the phase, the trigger pulse and, on a rollover, the duty latch. -/
def advanceCarrier (s : State) : State :=
  let moved := { s with phase := phaseWord (nextPhase s), trigger := fires s }
  if rollsOver s then latchDuty moved else moved

/-- `TICK raw` (R128): the carrier advances, and a firing tick captures `raw` if the sampler is armed. -/
def execTick (raw : RawWord) (s : State) : Host.Outcome State Fault Refusal :=
  if s.pwmState = .running then
    .next (if fires s && s.smpArmed then capture raw (advanceCarrier s) else advanceCarrier s)
  else .next s

end Sys2Proof.Machine
end

