-- ==== Sys2Proof/Machine/Dispatch.lean ====
section
/-! DEFINITION. The dispatch of a stimulus to its meaning, one arm for each row of spec/opcode_table.json. -/

namespace Sys2Proof.Machine

def exec (i : Instr) (s : State) : Host.Outcome State Fault Refusal :=
  match i with
  | .rd a => Sys2Proof.Machine.execRd a s
  | .cmdNop => Sys2Proof.Machine.execCmdNop s
  | .cmdConfigure => Sys2Proof.Machine.execCmdConfigure s
  | .cmdStart => Sys2Proof.Machine.execCmdStart s
  | .cmdStop => Sys2Proof.Machine.execCmdStop s
  | .cmdArm => Sys2Proof.Machine.execCmdArm s
  | .cmdSmpArm => Sys2Proof.Machine.execCmdSmpArm s
  | .cmdRsvd code => Sys2Proof.Machine.execCmdRsvd code s
  | .wrStatus d => Sys2Proof.Machine.execWrStatus d s
  | .wrSetpoint d => Sys2Proof.Machine.execWrSetpoint d s
  | .wrKp d => Sys2Proof.Machine.execWrKp d s
  | .wrKi d => Sys2Proof.Machine.execWrKi d s
  | .wrOutMin d => Sys2Proof.Machine.execWrOutMin d s
  | .wrOutMax d => Sys2Proof.Machine.execWrOutMax d s
  | .wrPeriod d => Sys2Proof.Machine.execWrPeriod d s
  | .wrPwmcfg d => Sys2Proof.Machine.execWrPwmcfg d s
  | .wrDeadtime d => Sys2Proof.Machine.execWrDeadtime d s
  | .wrChannel d => Sys2Proof.Machine.execWrChannel d s
  | .wrDutyOut d => Sys2Proof.Machine.execWrDutyOut d s
  | .wrDutyActive d => Sys2Proof.Machine.execWrDutyActive d s
  | .wrRawSample d => Sys2Proof.Machine.execWrRawSample d s
  | .wrMissed d => Sys2Proof.Machine.execWrMissed d s
  | .wrRsvd d => Sys2Proof.Machine.execWrRsvd d s
  | .tick raw => Sys2Proof.Machine.execTick raw s
  | .update => Sys2Proof.Machine.execUpdate s
  | .reset => Sys2Proof.Machine.execReset s

end Sys2Proof.Machine
end

