-- ==== Sys2Proof/Machine/Step.lean ====
section
/-! DEFINITION. One step: the next stimulus arrives, is decoded and runs to completion (00_scope.md R5). -/

namespace Sys2Proof.Machine

/-- One step. A step with no stimulus to come changes no state of the block (R5, 70_reset_and_hazards.md R221; log 4);
an `INVALID` word is refused with its reason (30_encoding.md R88, 44_host_port.md R178; log 5). -/
def step (s : State) : Host.Outcome State Fault Refusal :=
  match s.stimuli with
  | [] => .next (lowerOutputs s)
  | w :: rest =>
    match decode w with
    | .ok i => exec i (accept rest s)
    | .error why => .refused (.invalidStimulus why)

/-- `s` with the word of `nbits` bits `w` as the next stimulus to arrive (log 1). -/
def State.withFetchWord (s : State) (nbits w : Nat) : State := deliver (tableWord nbits w) s

end Sys2Proof.Machine
end

