-- ==== Sys2Proof/Safety.lean ====
section
/-! DEFINITION. The terms in which claims are made: who issues a stimulus, the invariants of 10_state.md R38, sequences
of stimuli, the causes of CommandRejected, the part of the state that decides what the block does, and the premises on
sequences of stimuli that 70_reset_and_hazards.md R229 and 42_sampler.md R145 name. -/

namespace Sys2Proof

/-! ### Agents (00_scope.md R6) -/

/-- The four agents that issue stimuli. -/
inductive Agent where
  | host
  | carrier
  | dispatcher
  | resetSource
  deriving DecidableEq, Repr

/-- The agent that issues a stimulus (R6). -/
def Instr.agent : Instr → Agent
  | .rd _ | .cmdNop | .cmdConfigure | .cmdStart | .cmdStop | .cmdArm | .cmdSmpArm | .cmdRsvd _
  | .wrStatus _ | .wrSetpoint _ | .wrKp _ | .wrKi _ | .wrOutMin _ | .wrOutMax _
  | .wrPeriod _ | .wrPwmcfg _ | .wrDeadtime _ | .wrChannel _
  | .wrDutyOut _ | .wrDutyActive _ | .wrRawSample _ | .wrMissed _ | .wrRsvd _ => .host
  | .tick _ => .carrier
  | .update => .dispatcher
  | .reset => .resetSource

end Sys2Proof

namespace Sys2Proof.Machine

/-! ### Invariants (10_state.md R38) -/

/-- R38 (b), with the range of `DUTY_ACTIVE` that 41_waveform.md R129 gives a Running carrier. -/
abbrev CarrierInv (s : State) : Prop :=
  (s.pwmState = .running →
    validConfig Config.params s = true ∧ s.phase.toNat < carrierRange s ∧ s.dutyActive.toNat ≤ carrierRange s)
  ∧ (s.pwmState ≠ .running → s.phase = 0)

/-- R38 (c) and (g); by R38 (d) "at least one update" is `ENG_STATE = Running`. -/
abbrev EngineInv (s : State) : Prop :=
  (s.engState ≠ .uninitialized → s.init.all = true ∧ s.outMin.toInt ≤ s.outMax.toInt)
  ∧ (s.engState = .running → toAcc s.outMin.toInt ≤ s.integ.toInt ∧ s.integ.toInt ≤ toAcc s.outMax.toInt)

/-- What holds until the first update (70_reset_and_hazards.md R223, 43_engine.md R155): what only an update writes is
still 0, and so is the active duty that is copied from it. -/
abbrev BeforeUpdateInv (s : State) : Prop :=
  s.engState ≠ .running →
    s.integ = 0 ∧ s.dutyOut = 0 ∧ s.dutyShadow = 0 ∧ s.dutyActive = 0
    ∧ s.satI = false ∧ s.satD = false ∧ s.satSticky = false

/-- R38 (e). -/
abbrev FlagInv (s : State) : Prop := s.sat = (s.satI || s.satD)

/-- What holds of the sampler (42_sampler.md R141, R142): an unarmed sampler has captured nothing, and an update has
needed a capture. -/
abbrev SamplerInv (s : State) : Prop :=
  (s.smpArmed = false → s.smpCh = 0 ∧ s.rawSample = 0 ∧ s.samplePending = false ∧ s.missed = 0)
  ∧ (s.engState = .running → s.smpArmed = true)

/-- The invariant of the block. -/
abbrev Inv (s : State) : Prop :=
  CarrierInv s ∧ EngineInv s ∧ BeforeUpdateInv s ∧ FlagInv s ∧ SamplerInv s

/-! ### Sequences of stimuli (20_memory.md R67) -/

/-- The effect of a sequence of stimuli, each complete before the next; the one-step outputs of a stimulus end when the
next one arrives. -/
def execSeq : List Instr → State → Host.Outcome State Fault Refusal
  | [], s => .next s
  | i :: rest, s =>
    match exec i (lowerOutputs s) with
    | .next t => execSeq rest t
    | .fault r => .fault r
    | .refused r => .refused r

/-- Whether a stimulus is a carrier tick. -/
def isTick : Instr → Bool
  | .tick _ => true
  | _ => false

/-- The number of carrier ticks of a sequence. -/
def tickCount (is : List Instr) : Nat := is.countP isTick

/-- The sequence neither stops the carrier nor resets the block. -/
def keepsCarrier (is : List Instr) : Bool := is.all fun i => decide (i ≠ .cmdStop) && decide (i ≠ .reset)

/-- The sequence does not reset the block. -/
def keepsBlock (is : List Instr) : Bool := is.all fun i => decide (i ≠ .reset)

/-- A tick that is a rollover (41_waveform.md R128). -/
def rolloverTick (i : Instr) (s : State) : Bool := isTick i && decide (s.pwmState = .running) && rollsOver s

/-- A tick that fires the trigger (41_waveform.md R130). -/
def firingTick (i : Instr) (s : State) : Bool := isTick i && decide (s.pwmState = .running) && fires s

/-- A tick that captures a sample (42_sampler.md R142). -/
def capturingTick (i : Instr) (s : State) : Bool := firingTick i s && s.smpArmed

/-- How many stimuli of a sequence, run from `s`, are of the kind that `kind` marks. -/
def countWhere (kind : Instr → State → Bool) : List Instr → State → Nat
  | [], _ => 0
  | i :: rest, s =>
    (kind i s).toNat +
      match exec i (lowerOutputs s) with
      | .next t => countWhere kind rest t
      | .fault _ => 0
      | .refused _ => 0

/-- The ticks of a sequence, run from `s`, that are rollovers. -/
def rolloverCount : List Instr → State → Nat := countWhere rolloverTick

/-- The ticks of a sequence, run from `s`, that capture a sample. -/
def captureCount : List Instr → State → Nat := countWhere capturingTick

/-- An `UPDATE` that serves a sample: one that is enabled, and so has an effect (43_engine.md R157). -/
def servingUpdate (i : Instr) (s : State) : Bool := decide (i = .update) && updateReq s

/-- The captured samples that no `UPDATE` has served, after one more stimulus. An `UPDATE` serves one sample, the one in
`RAW_SAMPLE`; a sample that a later capture overwrote is served by none. -/
def owedAfter (owed : Nat) (i : Instr) (s : State) : Nat :=
  if capturingTick i s then owed + 1 else if servingUpdate i s then owed - 1 else owed

/-- Every sample captured by the sequence, run from `s`, is served by an `UPDATE` ordered before the next stimulus that
`deadline` marks; `owed` counts the captured samples that none has served. -/
def servedBy (deadline : Instr → State → Bool) : Nat → List Instr → State → Prop
  | _, [], _ => True
  | owed, i :: rest, s =>
    (deadline i s = true → owed = 0) ∧
      match exec i (lowerOutputs s) with
      | .next t => servedBy deadline (owedAfter owed i s) rest t
      | .fault _ => True
      | .refused _ => True

/-- Assumption `A_LAT` (70_reset_and_hazards.md R229): the update that serves a captured sample is ordered before the
next rollover. A premise on the sequence, never part of the step. -/
def ALat (is : List Instr) (s : State) : Prop := servedBy rolloverTick 0 is s

/-- The premise of 42_sampler.md R145: every captured sample is served by an update before the next firing. -/
def ServedBeforeNextFiring (is : List Instr) (s : State) : Prop := servedBy firingTick 0 is s

/-! ### Rejection (60_exceptions.md R194) -/

/-- The causes of CommandRejected, complete (R194). -/
def rejectionCause (i : Instr) (s : State) : Bool :=
  match i with
  | .wrPeriod _ | .wrPwmcfg _ | .wrDeadtime _ | .cmdConfigure => decide (s.pwmState = .running)
  | .cmdStart => decide (s.pwmState = .idle)
  | .wrOutMin _ | .wrOutMax _ => decide (s.engState ≠ .uninitialized)
  | .cmdArm =>
    !(decide (s.engState = .uninitialized) && s.init.kp && s.init.ki && s.init.outMin && s.init.outMax
      && decide (s.outMin.toInt ≤ s.outMax.toInt))
  | .cmdRsvd _ | .wrDutyOut _ | .wrDutyActive _ | .wrRawSample _ | .wrMissed _ | .wrRsvd _ => true
  | .rd _ | .cmdNop | .cmdStop | .cmdSmpArm | .wrStatus _ | .wrSetpoint _ | .wrKp _ | .wrKi _ | .wrChannel _
  | .tick _ | .update | .reset => false

/-- The causes of InvalidConfig (60_exceptions.md R191), for a carrier configuration that is not valid. -/
def invalidConfigCause (i : Instr) (s : State) : Bool :=
  match i with
  | .cmdConfigure => decide (s.pwmState ≠ .running) && !validConfig Config.params s
  | .cmdStart => decide (s.pwmState = .configuring) && !validConfig Config.params s
  | _ => false

/-! ### What decides -/

/-- The state with everything blanked that the block only exports or shows the host, or only passes on to what it exports:
the duty it computed, shadows and drives (10_state.md R24, R25), polarity and the trigger pulse (R26, R41), the channel
(R31), the missed-sample counter (R33), the saturation and error flags (R35), and the word on the host port. -/
def decidingPart (s : State) : State :=
  { s with
    dutyOut := 0, dutyShadow := 0, dutyActive := 0, pol := .activeHigh, channel := 0, smpCh := 0, missed := 0
    sat := false, satI := false, satD := false, satSticky := false, cfgErr := false, cmdRej := false
    readData := none, trigger := false }

end Sys2Proof.Machine
end

