-- ==== Sys2Proof/Certificates/Slice0/Obligations.lean ====
section
/-! DEFINITION. The statements about PICE-1 for the provers. Each docstring names the rules of spec/ that the statement
formalises. `R` in a docstring is the carrier range of 41_waveform.md R120. -/

open Sys2Proof Sys2Proof.Machine

/-! ### Encoding (30_encoding.md) -/

/-- R87, "Encoding is the inverse on canonical words": decoding the word of a well-formed stimulus gives it back, with
every operand at every value. -/
def Obligations.DecodeInvertsEncode : Prop :=
  ∀ i : Instr, i.wellFormed = true → decode (encode i) = .ok i

/-- R87, the other direction: a word that decodes is the word of what it decodes to, but for the `DATA` of an `RD`,
which re-encoding clears. -/
def Obligations.EncodeInvertsDecodeButForReadData : Prop :=
  ∀ (w : StimulusWord) (i : Instr), decode w = .ok i →
    i.wellFormed = true ∧ encode i = if wordKind w = 0#2 then w &&& 0xFF0000 else w

/-- R87 and R88 (a), as a map of the 2^24 words by their numbers: what every word decodes to. -/
def Obligations.DecoderMapsTheWordSpace : Prop :=
  ∀ w : StimulusWord,
    (w.toNat < 0x100000 → decode w = .ok (.rd (HostReg.ofAddr (BitVec.ofNat 4 (w.toNat / 0x10000)))))
    ∧ (0x100000 ≤ w.toNat → w.toNat < 0x400000 → ∃ why, decode w = .error why)
    ∧ (0x400000 ≤ w.toNat → w.toNat < 0x500000 →
        decode w = .ok (decodeWrite (HostReg.ofAddr (BitVec.ofNat 4 ((w.toNat - 0x400000) / 0x10000)))
          (BitVec.ofNat 16 (w.toNat % 0x10000))))
    ∧ (0x500000 ≤ w.toNat → w.toNat < 0x800000 → ∃ why, decode w = .error why)
    ∧ (0x800000 ≤ w.toNat → w.toNat < 0x800400 → decode w = .ok (.tick (BitVec.ofNat 10 (w.toNat - 0x800000))))
    ∧ (0x800400 ≤ w.toNat → w.toNat < 0x900000 → ∃ why, decode w = .error why)
    ∧ (w.toNat = 0x900000 → decode w = .ok .update)
    ∧ (0x900000 < w.toNat → w.toNat < 0xA00000 → ∃ why, decode w = .error why)
    ∧ (w.toNat = 0xA00000 → decode w = .ok .reset)
    ∧ (0xA00000 < w.toNat → ∃ why, decode w = .error why)

/-- R83: `00 00 aaaa xxxxxxxxxxxxxxxx`, the last sixteen bits ignored, is the read of register `aaaa`. -/
def Obligations.ReadWordsDecode : Prop :=
  ∀ (a : HostReg) (x : Word), decode ((a.addr.setWidth 24 <<< 16) + x.setWidth 24) = .ok (.rd a)

/-- R84: the sixteen rows of host writes. -/
def Obligations.WriteWordsDecode : Prop :=
  ∀ d : Word,
    decode (0x400000#24 + d.setWidth 24) = .ok (decodeCommand d)
    ∧ decode (0x410000#24 + d.setWidth 24) = .ok (.wrStatus d)
    ∧ decode (0x420000#24 + d.setWidth 24) = .ok (.wrSetpoint d)
    ∧ decode (0x430000#24 + d.setWidth 24) = .ok (.wrKp d)
    ∧ decode (0x440000#24 + d.setWidth 24) = .ok (.wrKi d)
    ∧ decode (0x450000#24 + d.setWidth 24) = .ok (.wrOutMin d)
    ∧ decode (0x460000#24 + d.setWidth 24) = .ok (.wrOutMax d)
    ∧ decode (0x470000#24 + d.setWidth 24) = .ok (.wrPeriod d)
    ∧ decode (0x480000#24 + d.setWidth 24) = .ok (.wrPwmcfg d)
    ∧ decode (0x490000#24 + d.setWidth 24) = .ok (.wrDeadtime d)
    ∧ decode (0x4A0000#24 + d.setWidth 24) = .ok (.wrChannel d)
    ∧ decode (0x4B0000#24 + d.setWidth 24) = .ok (.wrDutyOut d)
    ∧ decode (0x4C0000#24 + d.setWidth 24) = .ok (.wrDutyActive d)
    ∧ decode (0x4D0000#24 + d.setWidth 24) = .ok (.wrRawSample d)
    ∧ decode (0x4E0000#24 + d.setWidth 24) = .ok (.wrMissed d)
    ∧ decode (0x4F0000#24 + d.setWidth 24) = .ok (.wrRsvd d)

/-- R85: the six command words, and every code from 0x0006 on is `CMD RSVD`. -/
def Obligations.CommandWordsDecode : Prop :=
  decode 0x400000 = .ok .cmdNop ∧ decode 0x400001 = .ok .cmdConfigure ∧ decode 0x400002 = .ok .cmdStart
  ∧ decode 0x400003 = .ok .cmdStop ∧ decode 0x400004 = .ok .cmdArm ∧ decode 0x400005 = .ok .cmdSmpArm
  ∧ ∀ c : Word, 6 ≤ c.toNat → decode (0x400000#24 + c.setWidth 24) = .ok (.cmdRsvd c)

/-- R86: the words of the hardware events. -/
def Obligations.EventWordsDecode : Prop :=
  (∀ raw : RawWord, decode (0x800000#24 + raw.setWidth 24) = .ok (.tick raw))
  ∧ decode 0x900000 = .ok .update ∧ decode 0xA00000 = .ok .reset

/-- Some words of 95_test_vectors.md section 2.2, one or more of each family. -/
def Obligations.WrittenOutWordsDecode : Prop :=
  decode 0x01ABCD = .ok (.rd .status) ∧ decode 0x434000 = .ok (.wrKp 0x4000)
  ∧ decode 0x48FFFF = .ok (.wrPwmcfg 0xFFFF) ∧ decode 0x400101 = .ok (.cmdRsvd 0x0101)
  ∧ decode 0x400005 = .ok .cmdSmpArm ∧ decode 0x8003FF = .ok (.tick 1023)
  ∧ decode 0x900000 = .ok .update ∧ decode 0xA00000 = .ok .reset
  ∧ decode 0x800400 = .error .eventPadding ∧ decode 0xC00000 = .error .reservedKind

/-! ### The step -/

/-- R5: the next stimulus runs to completion. When the next word decodes to an instruction, the step is that
instruction's effect on the state in which the word has left the list of stimuli (the model's, log 1) and the one-step
outputs of the stimulus before have ended (log 2, log 3). -/
def Obligations.StepRunsTheArrivedStimulus : Prop :=
  ∀ (s : State) (w : StimulusWord) (rest : List StimulusWord) (i : Instr),
    s.stimuli = w :: rest → decode w = .ok i →
      step s = exec i { s with stimuli := rest, readData := none, trigger := false }

/-- R12, R171, R178: no step faults; a step is refused exactly when the next word is `INVALID`, and then it says which
case of R88 (a) the word is. -/
def Obligations.StepRefusesExactlyInvalidWords : Prop :=
  ∀ s : State,
    (∀ f, step s ≠ .fault f)
    ∧ ((∃ r, step s = .refused r) ↔ ∃ w rest why, s.stimuli = w :: rest ∧ decode w = .error why)
    ∧ (∀ w rest why, s.stimuli = w :: rest → decode w = .error why → step s = .refused (.invalidStimulus why))

/-- R5, R221 and log 4 (the model's choice): with no stimulus to come a step changes nothing of the block. -/
def Obligations.StepWithoutStimulusIdles : Prop :=
  ∀ s : State, s.stimuli = [] → step s = .next { s with readData := none, trigger := false }

/-- R67: the stimuli of a list take effect completely and in order, whatever the stimuli are; the stimuli behind them
stay. -/
def Obligations.QueuedStimuliRunInOrder : Prop :=
  ∀ (is : List Instr) (rest : List StimulusWord) (s t : State),
    (∀ i ∈ is, i.wellFormed = true) → execSeq is { s with stimuli := rest } = .next t →
      Host.Core.run core is.length { s with stimuli := is.map encode ++ rest } = .next t

/-! ### The host port (44_host_port.md, 60_exceptions.md section 1) -/

/-- R170: the word each address returns, `STATUS` as the sum of its fields; no state of the block changes. The word
returned stands in the model's field `readData` (log 2). -/
def Obligations.ReadReturnsTheRegister : Prop :=
  ∀ s : State,
    (∀ a : HostReg, encode (.rd a) = a.addr.setWidth 24 <<< 16)
    ∧ exec (.rd .cmd) s = .next { s with readData := some 0 }
    ∧ (∃ v : Word, exec (.rd .status) s = .next { s with readData := some v }
        ∧ v.toNat = (match s.engState with | .uninitialized => 0 | .armed => 1 | .running => 2)
            + (match s.pwmState with | .idle => 0 | .configuring => 4 | .running => 8)
            + s.smpArmed.toNat * 16 + s.samplePending.toNat * 32 + s.sat.toNat * 64 + s.satI.toNat * 128
            + s.satD.toNat * 256 + s.satSticky.toNat * 512 + s.cfgErr.toNat * 1024 + s.cmdRej.toNat * 2048
            + s.init.kp.toNat * 4096 + s.init.ki.toNat * 8192 + s.init.outMin.toNat * 16384
            + s.init.outMax.toNat * 32768)
    ∧ exec (.rd .setpoint) s = .next { s with readData := some s.setpoint }
    ∧ exec (.rd .kp) s = .next { s with readData := some s.kp }
    ∧ exec (.rd .ki) s = .next { s with readData := some s.ki }
    ∧ exec (.rd .outMin) s = .next { s with readData := some s.outMin }
    ∧ exec (.rd .outMax) s = .next { s with readData := some s.outMax }
    ∧ exec (.rd .period) s = .next { s with readData := some s.period }
    ∧ (∃ v : Word, exec (.rd .pwmcfg) s = .next { s with readData := some v }
        ∧ v.toNat = (match s.mode with | .edge => 0 | .center => 1) + (match s.pol with | .activeHigh => 0 | .activeLow => 2))
    ∧ exec (.rd .deadtime) s = .next { s with readData := some s.deadtime }
    ∧ exec (.rd .channel) s = .next { s with readData := some (s.channel.setWidth 16) }
    ∧ exec (.rd .dutyOut) s = .next { s with readData := some s.dutyOut }
    ∧ exec (.rd .dutyActive) s = .next { s with readData := some s.dutyActive }
    ∧ exec (.rd .rawSample) s = .next { s with readData := some (s.rawSample.setWidth 16) }
    ∧ exec (.rd .missed) s = .next { s with readData := some s.missed }
    ∧ exec (.rd .rsvd) s = .next { s with readData := some 0 }

/-- R173: `CMD NOP` is the word 0x400000 and leaves every register as it was. -/
def Obligations.NopChangesNothing : Prop :=
  encode .cmdNop = 0x400000 ∧ ∀ s : State, exec .cmdNop s = .next s

/-- R174, R176, R177: a reserved command code and a write to a read-only or reserved address set `CMD_REJ` and change
nothing else. -/
def Obligations.ReservedWritesOnlyReject : Prop :=
  ∀ (d : Word) (s : State),
    (6 ≤ d.toNat → decode (0x400000#24 + d.setWidth 24) = .ok (.cmdRsvd d))
    ∧ encode (.wrDutyOut d) = 0x4B0000#24 + d.setWidth 24
    ∧ encode (.wrDutyActive d) = 0x4C0000#24 + d.setWidth 24
    ∧ encode (.wrRawSample d) = 0x4D0000#24 + d.setWidth 24
    ∧ encode (.wrMissed d) = 0x4E0000#24 + d.setWidth 24
    ∧ encode (.wrRsvd d) = 0x4F0000#24 + d.setWidth 24
    ∧ exec (.cmdRsvd d) s = .next { s with cmdRej := true }
    ∧ exec (.wrDutyOut d) s = .next { s with cmdRej := true }
    ∧ exec (.wrDutyActive d) s = .next { s with cmdRej := true }
    ∧ exec (.wrRawSample d) s = .next { s with cmdRej := true }
    ∧ exec (.wrMissed d) s = .next { s with cmdRej := true }
    ∧ exec (.wrRsvd d) s = .next { s with cmdRej := true }

/-- R175: `WR STATUS, d` clears the sticky bits for which `d` has a one in bits 9, 10, 11, and changes nothing else. -/
def Obligations.WriteStatusClearsMarkedStickyBits : Prop :=
  ∀ (d : Word) (s : State),
    encode (.wrStatus d) = 0x410000#24 + d.setWidth 24
    ∧ exec (.wrStatus d) s = .next { s with
        satSticky := if d.toNat / 512 % 2 = 1 then false else s.satSticky
        cfgErr := if d.toNat / 1024 % 2 = 1 then false else s.cfgErr
        cmdRej := if d.toNat / 2048 % 2 = 1 then false else s.cmdRej }

/-- R194: the causes of CommandRejected are exactly those of `rejectionCause`; a rejected stimulus sets `CMD_REJ` and
changes nothing else; only `WR STATUS` with bit 11 set and `RESET` clear the flag. -/
def Obligations.RejectionHasExactlyItsCauses : Prop :=
  ∀ (i : Instr) (s t : State), exec i s = .next t →
    (rejectionCause i s = true → t = { s with cmdRej := true })
    ∧ (s.cmdRej = false → t.cmdRej = true → rejectionCause i s = true)
    ∧ (s.cmdRej = true → t.cmdRej = false → i = .reset ∨ ∃ d, i = .wrStatus d ∧ d.getLsbD 11 = true)

/-- R191: InvalidConfig is raised exactly by `CMD CONFIGURE` in `Idle` or `Configuring` and `CMD START` in
`Configuring` when the configuration is not valid, never while Running; it sets `CFG_ERR`, makes the carrier `Idle` and
records nothing else; from `Idle` only a `CONFIGURE` that succeeds leads on; only the host and `RESET` clear the flag. -/
def Obligations.InvalidConfigHasExactlyItsCauses : Prop :=
  ∀ (i : Instr) (s t : State), exec i s = .next t →
    (invalidConfigCause i s = true → s.pwmState ≠ .running ∧ t = { s with cfgErr := true, pwmState := .idle })
    ∧ (s.cfgErr = false → t.cfgErr = true → invalidConfigCause i s = true)
    ∧ (s.cfgErr = true → t.cfgErr = false → i = .reset ∨ ∃ d, i = .wrStatus d ∧ d.getLsbD 10 = true)
    ∧ (s.pwmState = .idle → t.pwmState ≠ .idle → i = .cmdConfigure ∧ validConfig Config.params s = true)

/-- R192: `MISSED` goes up by one, staying at 65535 once there, on a capture while a sample is pending, which overwrites
the older sample and changes no status bit; nothing else changes it but `RESET`. -/
def Obligations.MissedSampleIsCounted : Prop :=
  ∀ (i : Instr) (s t : State), exec i s = .next t →
    (∀ raw, i = .tick raw → capturingTick i s = true → s.samplePending = true →
      t.missed.toNat = min (s.missed.toNat + 1) 65535 ∧ t.rawSample = raw ∧ statusWord t = statusWord s)
    ∧ (t.missed ≠ s.missed → i = .reset ∨ (capturingTick i s = true ∧ s.samplePending = true))

/-! ### The Waveform Generator (41_waveform.md) -/

/-- R120: the carrier range by mode, for any register contents and for a valid configuration. -/
def Obligations.CarrierRangeByMode : Prop :=
  ∀ s : State,
    (s.mode = .center → carrierRange s = 2 * s.period.toNat)
    ∧ (s.mode = .edge → carrierRange s = s.period.toNat)
    ∧ carrierRange s ≤ 131070
    ∧ (validConfig Config.params s = true → 1 ≤ carrierRange s ∧ carrierRange s ≤ 65534)

/-- R121: `valid_config()`, the dead time against half the period in its exact and its rounded-down reading. -/
def Obligations.ValidConfigBounds : Prop :=
  ∀ s : State,
    (validConfig Config.params s = true
      ↔ 1 ≤ s.period.toNat ∧ s.period.toNat ≤ 32767 ∧ 2 * s.deadtime.toNat ≤ s.period.toNat)
    ∧ (validConfig Config.params s = true
      ↔ 1 ≤ s.period.toNat ∧ s.period.toNat ≤ 32767 ∧ ¬s.deadtime.toNat > s.period.toNat / 2)

/-- R122, R123, R124: the carrier configuration writes, accepted while the carrier is not Running; nothing but the
validity check of the two carrier commands and the host's own read looks at `DEADTIME`. -/
def Obligations.CarrierConfigurationWrites : Prop :=
  ∀ (d : Word) (s : State),
    encode (.wrPeriod d) = 0x470000#24 + d.setWidth 24
    ∧ encode (.wrPwmcfg d) = 0x480000#24 + d.setWidth 24
    ∧ encode (.wrDeadtime d) = 0x490000#24 + d.setWidth 24
    ∧ (s.pwmState ≠ .running →
        exec (.wrPeriod d) s = .next { s with period := d }
        ∧ exec (.wrPwmcfg d) s = .next { s with
            mode := if d.toNat % 2 = 1 then .center else .edge
            pol := if d.toNat / 2 % 2 = 1 then .activeLow else .activeHigh }
        ∧ exec (.wrDeadtime d) s = .next { s with deadtime := d })
    ∧ (s.pwmState = .running →
        exec (.wrPeriod d) s = .next { s with cmdRej := true }
        ∧ exec (.wrPwmcfg d) s = .next { s with cmdRej := true }
        ∧ exec (.wrDeadtime d) s = .next { s with cmdRej := true })
    ∧ ∀ (i : Instr) (t : State), exec i s = .next t → i ≠ .cmdConfigure → i ≠ .cmdStart → i ≠ .rd .deadtime →
        ∃ t', exec i { s with deadtime := d } = .next t' ∧ t' = { t with deadtime := t'.deadtime }

/-- R125: `CMD CONFIGURE`. -/
def Obligations.ConfigureChecksTheConfiguration : Prop :=
  encode .cmdConfigure = 0x400001
  ∧ ∀ s : State,
    (s.pwmState ≠ .running → validConfig Config.params s = true →
      exec .cmdConfigure s = .next { s with pwmState := .configuring })
    ∧ (s.pwmState ≠ .running → validConfig Config.params s = false →
      exec .cmdConfigure s = .next { s with pwmState := .idle, cfgErr := true })
    ∧ (s.pwmState = .running → exec .cmdConfigure s = .next { s with cmdRej := true })

/-- R126: `CMD START`. -/
def Obligations.StartIsAPeriodBoundary : Prop :=
  encode .cmdStart = 0x400002
  ∧ ∀ s : State,
    (s.pwmState = .configuring → validConfig Config.params s = true →
      ∃ t, exec .cmdStart s = .next t
        ∧ t.dutyActive.toNat = min s.dutyShadow.toNat (carrierRange s)
        ∧ t = { s with pwmState := .running, phase := 0, dutyActive := t.dutyActive })
    ∧ (s.pwmState = .configuring → validConfig Config.params s = false →
      exec .cmdStart s = .next { s with pwmState := .idle, cfgErr := true })
    ∧ (s.pwmState = .running → exec .cmdStart s = .next s)
    ∧ (s.pwmState = .idle → exec .cmdStart s = .next { s with cmdRej := true })

/-- R127: `CMD STOP`. -/
def Obligations.StopReturnsTheCarrierToIdle : Prop :=
  encode .cmdStop = 0x400003
  ∧ ∀ s : State,
    (s.pwmState = .running ∨ s.pwmState = .configuring →
      exec .cmdStop s = .next { s with pwmState := .idle, phase := 0 })
    ∧ (s.pwmState = .idle → exec .cmdStop s = .next s)

/-- R128 and R130: `TICK raw`. The premise `CarrierInv` is R38 (b), without which the next phase need not fit its
register. -/
def Obligations.TickAdvancesTheCarrier : Prop :=
  ∀ (raw : RawWord) (s : State),
    encode (.tick raw) = 0x800000#24 + raw.setWidth 24
    ∧ (s.pwmState ≠ .running → exec (.tick raw) s = .next s)
    ∧ (s.pwmState = .running → CarrierInv s →
      ∃ t, exec (.tick raw) s = .next t
        ∧ t.phase.toNat = (if carrierRange s ≤ s.phase.toNat + 1 then 0 else s.phase.toNat + 1)
        ∧ t.dutyActive.toNat = (if carrierRange s ≤ s.phase.toNat + 1 then min s.dutyShadow.toNat (carrierRange s)
            else s.dutyActive.toNat)
        ∧ (t.trigger = true ↔
            (s.mode = .edge ∧ carrierRange s ≤ s.phase.toNat + 1) ∨ (s.mode = .center ∧ t.phase = s.period))
        ∧ (t.trigger = true → s.smpArmed = true →
            t.rawSample = raw ∧ t.samplePending = true
            ∧ t.missed.toNat = (if s.samplePending = true then min (s.missed.toNat + 1) 65535 else s.missed.toNat))
        ∧ (t.trigger = false ∨ s.smpArmed = false →
            t.rawSample = s.rawSample ∧ t.samplePending = s.samplePending ∧ t.missed = s.missed)
        ∧ t = { s with
            phase := t.phase, dutyActive := t.dutyActive, trigger := t.trigger
            rawSample := t.rawSample, samplePending := t.samplePending, missed := t.missed })

/-- R129: `DUTY_ACTIVE` takes `min(DUTY_SHADOW, R)` on a rollover and on a `CMD START` that starts the carrier, and
keeps its value through every other stimulus but `RESET`. -/
def Obligations.DutyLatchesOnlyAtPeriodBoundaries : Prop :=
  ∀ (i : Instr) (s t : State), exec i s = .next t →
    ((rolloverTick i s = true ∨ (i = .cmdStart ∧ s.pwmState = .configuring ∧ validConfig Config.params s = true)) →
      t.dutyActive.toNat = min s.dutyShadow.toNat (carrierRange s))
    ∧ (rolloverTick i s = false → i ≠ .cmdStart → i ≠ .reset → t.dutyActive = s.dutyActive)
    ∧ (i = .cmdStart → ¬(s.pwmState = .configuring ∧ validConfig Config.params s = true) → t.dutyActive = s.dutyActive)

/-- R133, which the spec derives from R128 and R130: while the carrier stays Running the ticks that fire are exactly `R` apart with one rollover between two
consecutive ones, and after `CMD START` the first one is tick number `PERIOD`. -/
def Obligations.TriggerFiresOncePerCarrierPeriod : Prop :=
  (∀ (raw : RawWord) (is : List Instr) (s u t : State),
    CarrierInv s → firingTick (.tick raw) s = true → keepsCarrier is = true →
    exec (.tick raw) s = .next u → execSeq is u = .next t →
      t.pwmState = .running ∧ carrierRange t = carrierRange s
      ∧ (fires t = true ↔ carrierRange s ∣ tickCount is + 1)
      ∧ (tickCount is + 1 = carrierRange s → ∀ last, rolloverCount (is ++ [.tick last]) u = 1))
  ∧ (∀ (is : List Instr) (s u t : State),
    s.pwmState = .configuring → validConfig Config.params s = true → keepsCarrier is = true →
    exec .cmdStart s = .next u → execSeq is u = .next t →
      (fires t = true ↔ (tickCount is + 1) % carrierRange s = s.period.toNat % carrierRange s))

/-- R132: the Waveform Generator's state after every stimulus. -/
def Obligations.WaveformStateMachine : Prop :=
  ∀ (i : Instr) (s t : State), exec i s = .next t →
    t.pwmState = match i with
      | .cmdConfigure =>
        (match s.pwmState with
          | .running => .running
          | .idle | .configuring => if validConfig Config.params s then .configuring else .idle)
      | .cmdStart =>
        (match s.pwmState with
          | .running => .running
          | .idle => .idle
          | .configuring => if validConfig Config.params s then .running else .idle)
      | .cmdStop | .reset => .idle
      | _ => s.pwmState

/-! ### The sampler (42_sampler.md) -/

/-- R140, R141: `WR CHANNEL` and `CMD SMP_ARM`, the only stimulus but `RESET` that changes `SMP_CH`; an armed sampler captures on every firing of the trigger and at no other
time, and only `RESET` disarms it. -/
def Obligations.ChannelWriteAndSamplerArming : Prop :=
  (∀ (d : Word) (s : State),
    encode (.wrChannel d) = 0x4A0000#24 + d.setWidth 24
    ∧ exec (.wrChannel d) s = .next { s with channel := BitVec.ofNat 4 (d.toNat % 16) })
  ∧ encode .cmdSmpArm = 0x400005
  ∧ (∀ s : State, exec .cmdSmpArm s = .next { s with smpCh := s.channel, smpArmed := true })
  ∧ ∀ (i : Instr) (s t : State), exec i s = .next t →
    (i ≠ .cmdSmpArm → i ≠ .reset → t.smpCh = s.smpCh)
    ∧ (s.smpArmed = true →
      (i ≠ .reset → t.smpArmed = true)
      ∧ (∀ raw, i = .tick raw → firingTick i s = true → t.rawSample = raw ∧ t.samplePending = true)
      ∧ (firingTick i s = false → i ≠ .reset → t.rawSample = s.rawSample ∧ t.missed = s.missed))

/-- R142: a capture happens only on a firing tick with the sampler armed; it takes the later sample and counts one for a
sample still pending; two captures with no update between give the second sample and at least one count. -/
def Obligations.CaptureKeepsTheLaterSample : Prop :=
  (∀ (raw : RawWord) (s : State),
    capture raw s = { s with
      missed := BitVec.ofNat 16 (if s.samplePending = true then min (s.missed.toNat + 1) 65535 else s.missed.toNat)
      rawSample := raw
      samplePending := true })
  ∧ (∀ (r₁ r₂ : RawWord) (s : State), s.samplePending = false →
    (capture r₂ (capture r₁ s)).rawSample = r₂
    ∧ (capture r₂ (capture r₁ s)).missed.toNat = min (s.missed.toNat + 1) 65535
    ∧ (capture r₂ (capture r₁ s)).samplePending = true)
  ∧ (∀ (i : Instr) (s t : State), exec i s = .next t →
    t.rawSample ≠ s.rawSample ∨ (s.samplePending = false ∧ t.samplePending = true) →
      capturingTick i s = true ∨ i = .reset)

/-- R145, which the spec derives from R142 and R158: with the engine armed, no sample pending, and every capture followed by an update before the next firing,
`SAMPLE_PENDING` is 0 at every capture and `MISSED` keeps its value. -/
def Obligations.NoSampleIsMissedWhenEachIsServed : Prop :=
  ∀ (is : List Instr) (s t : State),
    s.engState ≠ .uninitialized → s.samplePending = false → keepsBlock is = true →
    ServedBeforeNextFiring is s → execSeq is s = .next t →
      t.missed = s.missed
      ∧ ∀ (before after : List Instr) (i : Instr) (u : State),
          is = before ++ i :: after → execSeq before s = .next u → capturingTick i u = true → u.samplePending = false

/-- A consequence of the assumption `A_LAT` of R229, a named premise on the sequence (log 11): since one rollover lies
between two firings of the trigger (R133), a Running loop that meets it meets the premise of R145 and misses no sample. -/
def Obligations.LatencyAssumptionPreventsMisses : Prop :=
  ∀ (is : List Instr) (s t : State),
    Inv s → s.pwmState = .running → s.engState ≠ .uninitialized → s.samplePending = false →
    keepsCarrier is = true → ALat is s → execSeq is s = .next t → t.missed = s.missed

/-- R143: only the `raw` of a tick that fires the trigger with the sampler armed has any effect. -/
def Obligations.UncapturedRawHasNoEffect : Prop :=
  ∀ (r₁ r₂ : RawWord) (s : State), capturingTick (.tick r₁) s = false → exec (.tick r₁) s = exec (.tick r₂) s

/-! ### The Control Law Engine (43_engine.md) -/

/-- R150, R151, R152: the writes of the tuning interface, accepted in every state. -/
def Obligations.TuningWrites : Prop :=
  ∀ (d : Word) (s : State),
    encode (.wrSetpoint d) = 0x420000#24 + d.setWidth 24
    ∧ encode (.wrKp d) = 0x430000#24 + d.setWidth 24
    ∧ encode (.wrKi d) = 0x440000#24 + d.setWidth 24
    ∧ exec (.wrSetpoint d) s = .next { s with setpoint := d }
    ∧ exec (.wrKp d) s = .next { s with kp := d, init := { s.init with kp := true } }
    ∧ exec (.wrKi d) s = .next { s with ki := d, init := { s.init with ki := true } }

/-- R153, R154: the bounds are written while the engine is `Uninitialized` and frozen after. -/
def Obligations.BoundWrites : Prop :=
  ∀ (d : Word) (s : State),
    encode (.wrOutMin d) = 0x450000#24 + d.setWidth 24
    ∧ encode (.wrOutMax d) = 0x460000#24 + d.setWidth 24
    ∧ (s.engState = .uninitialized →
        exec (.wrOutMin d) s = .next { s with outMin := d, init := { s.init with outMin := true } }
        ∧ exec (.wrOutMax d) s = .next { s with outMax := d, init := { s.init with outMax := true } })
    ∧ (s.engState ≠ .uninitialized →
        exec (.wrOutMin d) s = .next { s with cmdRej := true }
        ∧ exec (.wrOutMax d) s = .next { s with cmdRej := true })

/-- R155: `CMD ARM`. -/
def Obligations.ArmNeedsGainsAndOrderedBounds : Prop :=
  encode .cmdArm = 0x400004
  ∧ ∀ s : State,
    (s.engState = .uninitialized ∧ s.init.bits = 0b1111 ∧ s.outMin.toInt ≤ s.outMax.toInt →
      exec .cmdArm s = .next { s with engState := .armed })
    ∧ (¬(s.engState = .uninitialized ∧ s.init.bits = 0b1111 ∧ s.outMin.toInt ≤ s.outMax.toInt) →
      exec .cmdArm s = .next { s with cmdRej := true })

/-- R156: the engine's state after every stimulus. -/
def Obligations.EngineStateMachine : Prop :=
  ∀ (i : Instr) (s t : State), exec i s = .next t →
    t.engState = match i with
      | .reset => .uninitialized
      | .cmdArm =>
        if s.engState = .uninitialized ∧ s.init.bits = 0b1111 ∧ s.outMin.toInt ≤ s.outMax.toInt then .armed
        else s.engState
      | .update => if s.samplePending = true ∧ s.engState ≠ .uninitialized then .running else s.engState
      | _ => s.engState

/-- R157: `UPDATE` has an effect exactly when `update_req` is 1, which it clears; only a new capture, or arming the
engine with a sample waiting (R195), raises it again. -/
def Obligations.UpdateRunsOncePerCapturedSample : Prop :=
  (∀ s : State,
    ((outputs s).updateReq = true ↔ s.samplePending = true ∧ (s.engState = .armed ∨ s.engState = .running))
    ∧ (exec .update s = .next s ↔ (outputs s).updateReq = false)
    ∧ ∀ t, exec .update s = .next t → (outputs t).updateReq = false)
  ∧ ∀ (i : Instr) (s t : State), exec i s = .next t → updateReq s = false → updateReq t = true →
      capturingTick i s = true ∨ (i = .cmdArm ∧ s.samplePending = true)

/-- R158, R159: the update in exact integers, with `min` and `max` for the saturations, whatever the bounds are. -/
def Obligations.UpdateFollowsThePiLaw : Prop :=
  encode .update = 0x900000
  ∧ ∀ s : State,
    (¬(s.samplePending = true ∧ s.engState ≠ .uninitialized) → exec .update s = .next s)
    ∧ (s.samplePending = true → s.engState ≠ .uninitialized →
      ∀ e sum acc lo hi i p ro d : Int,
        e = max (-32768) (min 32767 (s.setpoint.toInt - 32 * (s.rawSample.toNat : Int))) →
        sum = s.integ.toInt + e * s.ki.toInt →
        acc = max (-2147483648) (min 2147483647 sum) →
        lo = 32768 * s.outMin.toInt → hi = 32768 * s.outMax.toInt →
        i = (if acc < lo then lo else if hi < acc then hi else acc) →
        p = max (-32768) (min 32767 ((e * s.kp.toInt + 16384) / 32768)) →
        ro = p + (i + 16384) / 32768 →
        d = max (-32768) (min 32767 ro) →
        ∃ t, exec .update s = .next t
          ∧ t.integ.toInt = i ∧ t.dutyOut.toInt = d
          ∧ t.dutyShadow.toNat = min ((max d 0).toNat * carrierRange s / 32768) 65535
          ∧ (t.satI = true ↔ sum < -2147483648 ∨ 2147483647 < sum ∨ acc < lo ∨ hi < acc)
          ∧ (t.satD = true ↔ ro < -32768 ∨ 32767 < ro ∨ d < 0)
          ∧ t.sat = (t.satI || t.satD) ∧ t.satSticky = (s.satSticky || t.sat)
          ∧ t.samplePending = false ∧ t.engState = .running
          ∧ t = { s with
              integ := t.integ, dutyOut := t.dutyOut, dutyShadow := t.dutyShadow
              satI := t.satI, satD := t.satD, sat := t.sat, satSticky := t.satSticky
              samplePending := t.samplePending, engState := t.engState })

/-- R193: an update rewrites the live saturation bits to what it found at the integrator and at the duty; they change
only by an update or `RESET`; `SAT_STICKY` is set by an update that saturated
and stays until the host or `RESET` clears it. -/
def Obligations.SaturationIsNeverSuppressed : Prop :=
  ∀ (i : Instr) (s t : State), exec i s = .next t →
    (i = .update → updateReq s = true →
      t.satI = ((updateAccum Config.params s).2 || (updateInteg Config.params s).2)
      ∧ t.satD = ((updateDuty Config.params s).2 || (updateTicks Config.params s).2)
      ∧ t.sat = (t.satI || t.satD) ∧ t.satSticky = (s.satSticky || t.sat))
    ∧ (¬(i = .update ∧ updateReq s = true) → i ≠ .reset → t.sat = s.sat ∧ t.satI = s.satI ∧ t.satD = s.satD)
    ∧ (s.satSticky = false → t.satSticky = true → i = .update ∧ updateReq s = true ∧ t.sat = true)
    ∧ (s.satSticky = true → t.satSticky = false → i = .reset ∨ ∃ d, i = .wrStatus d ∧ d.getLsbD 9 = true)

/-- R160, which the spec derives from R158 and R101: the anti-windup bound after every update that runs, whatever the sample, the gains and the integrator were,
for every calibration. -/
def Obligations.IntegratorStaysInItsBounds : Prop :=
  (∀ (p : Config.Params) (s t : State),
    s.outMin.toInt ≤ s.outMax.toInt → updateReq s = true → execUpdateWith p s = .next t →
      toAcc t.outMin.toInt ≤ t.integ.toInt ∧ t.integ.toInt ≤ toAcc t.outMax.toInt
      ∧ t.outMin.toInt ≤ fromAcc t.integ.toInt ∧ fromAcc t.integ.toInt ≤ t.outMax.toInt)
  ∧ ∀ s t : State, Inv s → updateReq s = true → exec .update s = .next t →
      toAcc t.outMin.toInt ≤ t.integ.toInt ∧ t.integ.toInt ≤ toAcc t.outMax.toInt

/-- R162, which the spec derives from R158, R104 and R103: an update with the error 0 keeps the accumulator and has no
proportional term, and any later update with the error 0 leaves the integrator and the duty exactly as it left them,
whatever has changed in between but the integrator, the bounds, the period and the mode. -/
def Obligations.EquilibriumIsReachedAtOnce : Prop :=
  ∀ s t : State,
    Inv s → updateReq s = true → updateError Config.params s = 0 → exec .update s = .next t →
      updateAccum Config.params s = (s.integ.toInt, false) ∧ updateProp Config.params s = 0
      ∧ t.dutyOut.toInt = (sat (fromAcc (clamp s.integ.toInt (toAcc s.outMin.toInt) (toAcc s.outMax.toInt)).1) 16).1
      ∧ ∀ s' u : State,
          s'.integ = t.integ → s'.outMin = t.outMin → s'.outMax = t.outMax → s'.period = t.period → s'.mode = t.mode →
          updateReq s' = true → updateError Config.params s' = 0 → exec .update s' = .next u →
            u.integ = t.integ ∧ u.dutyOut = t.dutyOut ∧ u.dutyShadow = t.dutyShadow

/-! ### The Fixed-Point Arithmetic Unit (40_fpuq.md) -/

/-- R100: `sat` clamps to the range of the width, says whether it changed the value, and is idempotent. -/
def Obligations.SaturateClampsToItsWidth : Prop :=
  ∀ (x : Int) (bits : Nat), 1 ≤ bits →
    (x < -(2 ^ (bits - 1)) → sat x bits = (-(2 ^ (bits - 1)), true))
    ∧ (2 ^ (bits - 1) - 1 < x → sat x bits = (2 ^ (bits - 1) - 1, true))
    ∧ (-(2 ^ (bits - 1)) ≤ x → x ≤ 2 ^ (bits - 1) - 1 → sat x bits = (x, false))
    ∧ sat (sat x bits).1 bits = ((sat x bits).1, false)

/-- R102: `rnd_shr(x, k)` is the integer nearest to `x / 2^k`, the greater one of two at a tie; it is monotone and exact
on multiples. -/
def Obligations.RoundingShiftIsNearest : Prop :=
  ∀ k : Nat, 1 ≤ k →
    (∀ x : Int, -(2 ^ (k - 1)) ≤ x - rndShr x k * 2 ^ k ∧ x - rndShr x k * 2 ^ k < 2 ^ (k - 1))
    ∧ (∀ x₁ x₂ : Int, x₁ ≤ x₂ → rndShr x₁ k ≤ rndShr x₂ k)
    ∧ (∀ m : Int, rndShr (m * 2 ^ k) k = m)

/-- R103: `mul` rounds the exact product, commutes, and saturates only for -1.0 times -1.0. -/
def Obligations.MultiplyRoundsTheExactProduct : Prop :=
  ∀ a b : Int, -32768 ≤ a → a ≤ 32767 → -32768 ≤ b → b ≤ 32767 →
    mul a b = mul b a
    ∧ ((mul a b).2 = true ↔ a = -32768 ∧ b = -32768)
    ∧ ((mul a b).2 = true → (mul a b).1 = 32767)
    ∧ ((mul a b).2 = false → (mul a b).1 = rndShr (a * b) 15)
    ∧ -1073709056 ≤ a * b ∧ a * b ≤ 1073741824
    ∧ -32767 ≤ rndShr (a * b) 15 ∧ rndShr (a * b) 15 ≤ 32768
    ∧ -32767 ≤ (mul a b).1 ∧ (mul a b).1 ≤ 32767

/-- R104: `mac` adds the exact product, saturates at 32 bits, and a zero operand leaves the accumulator. -/
def Obligations.MultiplyAccumulateIsExact : Prop :=
  ∀ a b acc : Int, -2147483648 ≤ acc → acc ≤ 2147483647 →
    (-2147483648 ≤ acc + a * b → acc + a * b ≤ 2147483647 → mac a b acc = (acc + a * b, false))
    ∧ (acc + a * b < -2147483648 → mac a b acc = (-2147483648, true))
    ∧ (2147483647 < acc + a * b → mac a b acc = (2147483647, true))
    ∧ mac 0 b acc = (acc, false) ∧ mac a 0 acc = (acc, false)

/-- R111, which the spec derives from R102, R103 and R104: where `mac` does not saturate, it differs from `acc + mul` by
at most half a Q15 unit, and by one unit in the one case in which `mul` saturates. -/
def Obligations.MacDiffersFromMulByOneUnit : Prop :=
  ∀ a b acc : Int, -32768 ≤ a → a ≤ 32767 → -32768 ≤ b → b ≤ 32767 →
    -2147483648 ≤ acc + a * b → acc + a * b ≤ 2147483647 →
      ((mul a b).2 = false →
        -16384 ≤ (mac a b acc).1 - (acc + toAcc (mul a b).1) ∧ (mac a b acc).1 - (acc + toAcc (mul a b).1) ≤ 16384)
      ∧ ((mul a b).2 = true → (mac a b acc).1 - (acc + toAcc (mul a b).1) = 32768)

/-- R112, which the spec derives from R104, R107 and R160: from an accumulator inside scaled Q15 bounds no product of Q15 values saturates it, so the `mac` of an update
never saturates in a state that meets the invariant. -/
def Obligations.AccumulatorNeverOverflows : Prop :=
  (∀ a b acc : Int, -32768 ≤ a → a ≤ 32767 → -32768 ≤ b → b ≤ 32767 →
    -1073741824 ≤ acc → acc ≤ 1073709056 →
      -2147483648 + 32768 ≤ acc + a * b ∧ acc + a * b ≤ 2147483648 - 32768 ∧ (mac a b acc).2 = false)
  ∧ ∀ s : State, Inv s → (updateAccum Config.params s).2 = false

/-- R106: `to_fixed` with the default calibration, and its round trip with `from_fixed`. -/
def Obligations.CalibrationRoundTrips : Prop :=
  (∀ raw : Nat, raw ≤ 1023 →
    toFixed Config.params raw = raw * 32 ∧ fromFixed Config.params (toFixed Config.params raw) = raw)
  ∧ (∀ fb : Int, 0 ≤ fb → fb ≤ 32767 →
    toFixed Config.params (fromFixed Config.params fb).toNat = fb - fb % 32)
  ∧ ∀ (p : Config.Params) (raw : Nat), raw ≤ 1023 →
    toFixed p raw = (sat (((raw : Int) - p.rawBias) * 2 ^ p.rawShift) 16).1
    ∧ -32768 ≤ toFixed p raw ∧ toFixed p raw ≤ 32767

/-- R107, R108: the rescales between Q15 and the accumulator's scale. -/
def Obligations.AccumulatorRescales : Prop :=
  (∀ v : Int, -32768 ≤ v → v ≤ 32767 →
    toAcc v = v * 32768 ∧ -1073741824 ≤ toAcc v ∧ toAcc v ≤ 1073709056 ∧ fromAcc (toAcc v) = v)
  ∧ ∀ x : Int, -2147483648 ≤ x → x ≤ 2147483647 →
    fromAcc x = rndShr x 15 ∧ -65536 ≤ fromAcc x ∧ fromAcc x ≤ 65536
    ∧ ∀ lo hi : Int, toAcc lo ≤ x → x ≤ toAcc hi → lo ≤ fromAcc x ∧ fromAcc x ≤ hi

/-- R109: `to_ticks`, its range and its monotonicity. -/
def Obligations.TicksStayBelowTheRange : Prop :=
  ∀ (d : Int) (r : Nat), -32768 ≤ d → d ≤ 32767 → r ≤ 131070 →
    (toTicks d r).1 = (max d 0).toNat * r / 32768
    ∧ ((toTicks d r).2 = true ↔ d < 0)
    ∧ (1 ≤ r → (toTicks d r).1 ≤ r - 1)
    ∧ (r = 0 → (toTicks d r).1 = 0)
    ∧ (r ≤ 65536 → (toTicks d r).1 < 65536)
    ∧ ∀ d' : Int, d ≤ d' → d' ≤ 32767 → (toTicks d r).1 ≤ (toTicks d' r).1

/-! ### The whole block -/

/-- Every step keeps the invariant, from every state that meets it. The invariant is 10_state.md R38, which the spec
derives, with additions that are the model's (log 12): "at least one update has run" is read as `ENG_STATE` = Running,
`DUTY_ACTIVE` stays in range (R129), what only an update writes is 0 before the first (R155, R223), and an unarmed sampler
has captured nothing (R141, R142). -/
def Obligations.EveryStepKeepsTheInvariant : Prop :=
  ∀ s t : State, Inv s → step s = .next t → Inv t

/-- The reset state, whose values are R37 (10_state.md section 9), meets the invariant: R38 with the additions that are
the model's (log 12). -/
def Obligations.ResetStateMeetsTheInvariant : Prop := Inv State.reset

/-- R37, R220: `RESET` makes every piece of state 0, in every state, and gives the initial state of the block, which is
the whole state but for the model's own three fields (log 1, log 2, log 3). -/
def Obligations.ResetClearsEveryPieceOfState : Prop :=
  encode .reset = 0xA00000
  ∧ ∀ s : State, ∃ t, exec .reset s = .next t
    ∧ t.setpoint = 0 ∧ t.kp = 0 ∧ t.ki = 0 ∧ t.outMin = 0 ∧ t.outMax = 0 ∧ t.integ = 0
    ∧ t.dutyOut = 0 ∧ t.dutyShadow = 0 ∧ t.dutyActive = 0 ∧ t.period = 0 ∧ t.deadtime = 0
    ∧ t.mode = .edge ∧ t.pol = .activeHigh ∧ t.phase = 0 ∧ t.pwmState = .idle ∧ t.engState = .uninitialized
    ∧ t.init.bits = 0 ∧ t.channel = 0 ∧ t.smpCh = 0 ∧ t.smpArmed = false ∧ t.rawSample = 0
    ∧ t.samplePending = false ∧ t.missed = 0 ∧ t.sat = false ∧ t.satI = false ∧ t.satD = false
    ∧ t.satSticky = false ∧ t.cfgErr = false ∧ t.cmdRej = false ∧ statusWord t = 0x0000
    ∧ t = { State.reset with stimuli := t.stimuli, readData := t.readData, trigger := t.trigger }

/-- R221, which the spec derives from R220, R128 and R157: after reset the outputs are 0, and ticks and updates alone never change the block. -/
def Obligations.ResetStateStaysUntilTheHostActs : Prop :=
  outputs State.reset = { dutyActive := 0, deadtime := 0, polarity := .activeHigh, carrierRun := false,
                          adcChannel := 0, updateReq := false, trigger := false }
  ∧ ∀ is : List Instr, (∀ i ∈ is, i.agent = .carrier ∨ i.agent = .dispatcher) →
      execSeq is State.reset = .next State.reset

/-- R202: what each context writes. The host changes nothing the update or the carrier owns, the update nothing the host
or the carrier owns, the carrier nothing the host or the update owns, but for what R202, R126 and R127 name. -/
def Obligations.EveryRegisterHasItsWriter : Prop :=
  ∀ (i : Instr) (s t : State), exec i s = .next t →
    (i.agent = .host →
      t.integ = s.integ ∧ t.dutyOut = s.dutyOut ∧ t.dutyShadow = s.dutyShadow
      ∧ t.sat = s.sat ∧ t.satI = s.satI ∧ t.satD = s.satD
      ∧ t.rawSample = s.rawSample ∧ t.samplePending = s.samplePending ∧ t.missed = s.missed
      ∧ (i ≠ .cmdStart → t.dutyActive = s.dutyActive)
      ∧ (i ≠ .cmdStart → i ≠ .cmdStop → t.phase = s.phase))
    ∧ (i.agent = .dispatcher →
      t.setpoint = s.setpoint ∧ t.kp = s.kp ∧ t.ki = s.ki ∧ t.outMin = s.outMin ∧ t.outMax = s.outMax
      ∧ t.period = s.period ∧ t.mode = s.mode ∧ t.pol = s.pol ∧ t.deadtime = s.deadtime
      ∧ t.channel = s.channel ∧ t.smpCh = s.smpCh ∧ t.smpArmed = s.smpArmed ∧ t.init = s.init
      ∧ t.phase = s.phase ∧ t.dutyActive = s.dutyActive ∧ t.rawSample = s.rawSample ∧ t.missed = s.missed
      ∧ t.pwmState = s.pwmState ∧ t.cfgErr = s.cfgErr ∧ t.cmdRej = s.cmdRej)
    ∧ (i.agent = .carrier →
      t.setpoint = s.setpoint ∧ t.kp = s.kp ∧ t.ki = s.ki ∧ t.outMin = s.outMin ∧ t.outMax = s.outMax
      ∧ t.period = s.period ∧ t.mode = s.mode ∧ t.pol = s.pol ∧ t.deadtime = s.deadtime
      ∧ t.channel = s.channel ∧ t.smpCh = s.smpCh ∧ t.smpArmed = s.smpArmed ∧ t.init = s.init
      ∧ t.integ = s.integ ∧ t.dutyOut = s.dutyOut ∧ t.dutyShadow = s.dutyShadow
      ∧ t.sat = s.sat ∧ t.satI = s.satI ∧ t.satD = s.satD ∧ t.satSticky = s.satSticky
      ∧ t.engState = s.engState ∧ t.pwmState = s.pwmState ∧ t.cfgErr = s.cfgErr ∧ t.cmdRej = s.cmdRej)

/-- R24, R25, R26, R31, R33, R35, R41: two states that differ only in what the block exports or shows the host, or passes
on to what it exports (the computed, the shadowed and the active duty, polarity, the trigger pulse, the channel, the
counter, the saturation and error flags, the word on the host port), go, by the same stimulus, to states that differ only in
those. -/
def Obligations.DiagnosticsDecideNothing : Prop :=
  ∀ (i : Instr) (s s' : State), decidingPart s = decidingPart s' →
    ∃ t t', exec i s = .next t ∧ exec i s' = .next t' ∧ decidingPart t = decidingPart t'

/-- The purpose of the assumption `A_LAT` of R229, a named premise on the sequence (log 11): in a Running loop that meets
it no sample waits at a rollover, and if a sample was captured before, the rollover latches the duty of the latest one: the
`UPDATE` that served it, after which none was captured, wrote the `DUTY_SHADOW` that stands there, and `DUTY_ACTIVE`
becomes exactly that update's tick count. That a second capture cannot come between rests on R133. -/
def Obligations.LatencyAssumptionLatchesTheDutyInTime : Prop :=
  ∀ (is : List Instr) (s t : State),
    Inv s → s.pwmState = .running → s.engState ≠ .uninitialized → s.samplePending = false →
    keepsCarrier is = true → ALat is s → execSeq is s = .next t →
      ∀ (before after : List Instr) (i : Instr) (u : State),
        is = before ++ i :: after → execSeq before s = .next u → rolloverTick i u = true →
          u.samplePending = false
          ∧ ∃ v, exec i (lowerOutputs u) = .next v
            ∧ v.dutyActive.toNat = min u.dutyShadow.toNat (carrierRange u)
            ∧ (0 < captureCount before s →
              ∃ b₁ b₂ w w', before = b₁ ++ .update :: b₂ ∧ execSeq b₁ s = .next w ∧ updateReq w = true
                ∧ exec .update (lowerOutputs w) = .next w' ∧ captureCount b₂ w' = 0
                ∧ w.rawSample = u.rawSample ∧ u.dutyShadow = w'.dutyShadow
                ∧ v.dutyActive.toNat = (updateTicks Config.params w).1)

/-- The model's choice (log 1): no stimulus changes the stimuli still to come. `RESET` too leaves them, and of the model's
other fields it clears the word on the host port (log 2) and the trigger pulse (log 3, R221). -/
def Obligations.StimuliStillToComeStay : Prop :=
  (∀ s : State, exec .reset s = .next { State.reset with stimuli := s.stimuli })
  ∧ ∀ (i : Instr) (s t : State), exec i s = .next t → t.stimuli = s.stimuli
end

