-- ==== Sys2Proof/Laws/Decode.lean ====
section
/-! SUPPORT. The fields of an encoded word as numbers, and what the decoder answers on a word of each format. -/

namespace Sys2Proof

/-! ### Addresses -/

@[simp] theorem ofAddr_addr (a : HostReg) : HostReg.ofAddr a.addr = a := by cases a <;> rfl

theorem addr_ofAddr : ∀ a : HostAddr, (HostReg.ofAddr a).addr = a := by decide

/-! ### Words as numbers -/

theorem toNat_append_add {m n : Nat} (x : BitVec m) (y : BitVec n) : (x ++ y).toNat = x.toNat * 2 ^ n + y.toNat := by
  rw [BitVec.toNat_append, ← Nat.shiftLeft_add_eq_or_of_lt y.isLt, Nat.shiftLeft_eq]

theorem hostWord_toNat (k : BitVec 2) (a : HostReg) (d : Word) :
    (hostWord k a d).toNat = k.toNat * 2 ^ 22 + a.addr.toNat * 2 ^ 16 + d.toNat := by
  simp only [hostWord, toNat_append_add, BitVec.toNat_ofNat]
  omega

theorem eventWord_toNat (ev : BitVec 2) (raw : RawWord) :
    (eventWord ev raw).toNat = 2 ^ 23 + ev.toNat * 2 ^ 20 + raw.toNat := by
  simp only [eventWord, toNat_append_add, BitVec.toNat_ofNat]
  omega

theorem wordKind_toNat (w : StimulusWord) : (wordKind w).toNat = w.toNat / 2 ^ 22 := by
  have := w.isLt
  simp only [wordKind, BitVec.extractLsb'_toNat, Nat.shiftRight_eq_div_pow]
  omega

theorem wordEv_toNat (w : StimulusWord) : (wordEv w).toNat = w.toNat / 2 ^ 20 % 4 := by
  simp only [wordEv, BitVec.extractLsb'_toNat, Nat.shiftRight_eq_div_pow]

theorem wordAddr_toNat (w : StimulusWord) : (wordAddr w).toNat = w.toNat / 2 ^ 16 % 16 := by
  simp only [wordAddr, BitVec.extractLsb'_toNat, Nat.shiftRight_eq_div_pow]

theorem wordData_toNat (w : StimulusWord) : (wordData w).toNat = w.toNat % 2 ^ 16 := by
  simp only [wordData, BitVec.extractLsb'_toNat, Nat.shiftRight_eq_div_pow]
  omega

theorem wordPad_toNat (w : StimulusWord) : (wordPad w).toNat = w.toNat / 2 ^ 10 % 1024 := by
  simp only [wordPad, BitVec.extractLsb'_toNat, Nat.shiftRight_eq_div_pow]

theorem wordRaw_toNat (w : StimulusWord) : (wordRaw w).toNat = w.toNat % 1024 := by
  simp only [wordRaw, BitVec.extractLsb'_toNat, Nat.shiftRight_eq_div_pow]
  omega

/-! ### Fields of a word of format H -/

@[simp] theorem wordKind_hostWord (k : BitVec 2) (a : HostReg) (d : Word) : wordKind (hostWord k a d) = k := by
  have := a.addr.isLt
  have := d.isLt
  apply BitVec.eq_of_toNat_eq
  rw [wordKind_toNat, hostWord_toNat]
  omega

@[simp] theorem wordEv_hostWord (k : BitVec 2) (a : HostReg) (d : Word) : wordEv (hostWord k a d) = 0#2 := by
  have := a.addr.isLt
  have := d.isLt
  apply BitVec.eq_of_toNat_eq
  rw [wordEv_toNat, hostWord_toNat]
  show _ = (0 : Nat)
  omega

@[simp] theorem wordAddr_hostWord (k : BitVec 2) (a : HostReg) (d : Word) : wordAddr (hostWord k a d) = a.addr := by
  have := a.addr.isLt
  have := d.isLt
  apply BitVec.eq_of_toNat_eq
  rw [wordAddr_toNat, hostWord_toNat]
  omega

@[simp] theorem wordData_hostWord (k : BitVec 2) (a : HostReg) (d : Word) : wordData (hostWord k a d) = d := by
  have := d.isLt
  apply BitVec.eq_of_toNat_eq
  rw [wordData_toNat, hostWord_toNat]
  omega

/-! ### Fields of a word of format E -/

@[simp] theorem wordKind_eventWord (ev : BitVec 2) (raw : RawWord) : wordKind (eventWord ev raw) = 2#2 := by
  have := ev.isLt
  have := raw.isLt
  apply BitVec.eq_of_toNat_eq
  rw [wordKind_toNat, eventWord_toNat]
  show _ = (2 : Nat)
  omega

@[simp] theorem wordEv_eventWord (ev : BitVec 2) (raw : RawWord) : wordEv (eventWord ev raw) = ev := by
  have := ev.isLt
  have := raw.isLt
  apply BitVec.eq_of_toNat_eq
  rw [wordEv_toNat, eventWord_toNat]
  omega

@[simp] theorem wordPad_eventWord (ev : BitVec 2) (raw : RawWord) : wordPad (eventWord ev raw) = 0#10 := by
  have := ev.isLt
  have := raw.isLt
  apply BitVec.eq_of_toNat_eq
  rw [wordPad_toNat, eventWord_toNat]
  show _ = (0 : Nat)
  omega

@[simp] theorem wordRaw_eventWord (ev : BitVec 2) (raw : RawWord) : wordRaw (eventWord ev raw) = raw := by
  have := raw.isLt
  apply BitVec.eq_of_toNat_eq
  rw [wordRaw_toNat, eventWord_toNat]
  omega

/-! ### The decoder on a word of each format -/

theorem decode_read (a : HostReg) (d : Word) : decode (hostWord 0#2 a d) = .ok (.rd a) := by
  simp [decode, decodeHost]

theorem decode_write (a : HostReg) (d : Word) : decode (hostWord 1#2 a d) = .ok (decodeWrite a d) := by
  simp [decode, decodeHost]

theorem decode_event (ev : BitVec 2) (raw : RawWord) : decode (eventWord ev raw) = decodeEvent (eventWord ev raw) := by
  simp [decode]

/-- A command code that names no command decodes to `CMD RSVD`. -/
theorem decodeCommand_reserved (code : Word) (h : reservedCode code = true) : decodeCommand code = .cmdRsvd code := by
  have h6 : 6 ≤ code.toNat := of_decide_eq_true h
  unfold decodeCommand
  split <;> first | omega | rfl

/-- A word is a format H word of its own fields when `Z2` is zero. -/
theorem hostWord_fields (w : StimulusWord) (h : wordEv w = 0#2) :
    hostWord (wordKind w) (HostReg.ofAddr (wordAddr w)) (wordData w) = w := by
  have hz := congrArg BitVec.toNat h
  rw [wordEv_toNat] at hz
  change _ = (0 : Nat) at hz
  apply BitVec.eq_of_toNat_eq
  rw [hostWord_toNat, addr_ofAddr, wordKind_toNat, wordAddr_toNat, wordData_toNat]
  omega

/-- A word is a format E word of its own fields when `KIND` is 10 and the padding is zero. -/
theorem eventWord_fields (w : StimulusWord) (hk : wordKind w = 2#2) (hp : wordPad w = 0#10) :
    eventWord (wordEv w) (wordRaw w) = w := by
  have hk := congrArg BitVec.toNat hk
  have hp := congrArg BitVec.toNat hp
  rw [wordKind_toNat] at hk
  rw [wordPad_toNat] at hp
  change _ = (2 : Nat) at hk
  change _ = (0 : Nat) at hp
  apply BitVec.eq_of_toNat_eq
  rw [eventWord_toNat, wordEv_toNat, wordRaw_toNat]
  omega

/-- The word of a host write as a sum (44_host_port.md R171). -/
theorem hostWord_write_add (k : Nat) (a : HostReg) (h : a.addr.toNat = k) (d : Word) :
    hostWord 1#2 a d = BitVec.ofNat 24 (0x400000 + k * 0x10000) + d.setWidth 24 := by
  have := d.isLt
  have := a.addr.isLt
  apply BitVec.eq_of_toNat_eq
  rw [hostWord_toNat, BitVec.toNat_add, BitVec.toNat_setWidth, h]
  simp only [BitVec.toNat_ofNat]
  omega

/-- The word of a tick as a sum (30_encoding.md R86). -/
theorem eventWord_add (raw : RawWord) : 0x800000#24 + raw.setWidth 24 = eventWord 0#2 raw := by
  have := raw.isLt
  apply BitVec.eq_of_toNat_eq
  rw [eventWord_toNat, BitVec.toNat_add, BitVec.toNat_setWidth]
  simp only [BitVec.toNat_ofNat]
  omega

/-! ### Everything the decoder accepts -/

/-- Everything a word that decodes can be. -/
theorem decode_ok_cases {w : StimulusWord} {i : Instr} (h : decode w = .ok i) :
    (wordKind w = 0#2 ∧ wordEv w = 0#2 ∧ i = .rd (HostReg.ofAddr (wordAddr w)))
      ∨ (wordKind w = 1#2 ∧ wordEv w = 0#2 ∧ i = decodeWrite (HostReg.ofAddr (wordAddr w)) (wordData w))
      ∨ (wordKind w = 2#2 ∧ wordPad w = 0#10 ∧ wordEv w = 0#2 ∧ i = .tick (wordRaw w))
      ∨ (wordKind w = 2#2 ∧ wordPad w = 0#10 ∧ wordEv w = 1#2 ∧ wordRaw w = 0#10 ∧ i = .update)
      ∨ (wordKind w = 2#2 ∧ wordPad w = 0#10 ∧ wordEv w = 2#2 ∧ wordRaw w = 0#10 ∧ i = .reset) := by
  have hk : ∀ k : BitVec 2, k = 0 ∨ k = 1 ∨ k = 2 ∨ k = 3 := by decide
  unfold decode decodeEvent decodeHost at h
  rcases hk (wordKind w) with h0 | h0 | h0 | h0 <;> simp [h0] at h ⊢
  · split at h
    · exact ⟨by assumption, by simpa using h.symm⟩
    · cases h
  · split at h
    · exact ⟨by assumption, by simpa using h.symm⟩
    · cases h
  · split at h
    · next hp =>
      rcases hk (wordEv w) with h1 | h1 | h1 | h1 <;> simp [h1] at h ⊢
      · exact ⟨hp, h.symm⟩
      · split at h
        · exact ⟨hp, by assumption, by simpa using h.symm⟩
        · cases h
      · split at h
        · exact ⟨hp, by assumption, by simpa using h.symm⟩
        · cases h
    · cases h

/-- What a host write decodes to is well-formed and encodes to that write. -/
theorem encode_decodeWrite (a : HostReg) (d : Word) :
    (decodeWrite a d).wellFormed = true ∧ encode (decodeWrite a d) = hostWord 1#2 a d := by
  cases a <;> try exact ⟨rfl, rfl⟩
  simp only [decodeWrite]
  unfold decodeCommand
  have hd : ∀ n, d.toNat = n → d = BitVec.ofNat 16 n := fun n h => by
    rw [← h]; simp
  split
  · next h => rw [hd _ h]; exact ⟨rfl, rfl⟩
  · next h => rw [hd _ h]; exact ⟨rfl, rfl⟩
  · next h => rw [hd _ h]; exact ⟨rfl, rfl⟩
  · next h => rw [hd _ h]; exact ⟨rfl, rfl⟩
  · next h => rw [hd _ h]; exact ⟨rfl, rfl⟩
  · next h => rw [hd _ h]; exact ⟨rfl, rfl⟩
  · refine ⟨?_, rfl⟩
    simp only [Instr.wellFormed, reservedCode, decide_eq_true_eq]
    by_contra hc
    have : d.toNat < 6 := by omega
    interval_cases d.toNat <;> simp_all

end Sys2Proof
end

