-- ==== Sys2Proof/Laws/Fpuq.lean ====
section
/-! SUPPORT. What the arithmetic of FPU-Q can answer: each function once, in the numbers of this hardware. -/

namespace Sys2Proof.Machine

/-- Everything a clamp can do (40_fpuq.md R101). -/
theorem clamp_cases (x lo hi : Int) :
    (x < lo ∧ clamp x lo hi = (lo, true)) ∨ (lo ≤ x ∧ hi < x ∧ clamp x lo hi = (hi, true))
      ∨ (lo ≤ x ∧ x ≤ hi ∧ clamp x lo hi = (x, false)) := by
  unfold clamp
  by_cases h1 : x < lo
  · exact .inl ⟨h1, if_pos h1⟩
  · by_cases h2 : hi < x
    · exact .inr (.inl ⟨by omega, h2, by rw [if_neg h1, if_pos h2]⟩)
    · exact .inr (.inr ⟨by omega, by omega, by rw [if_neg h1, if_neg h2]⟩)

/-- A value in range is returned unchanged. -/
theorem clamp_of_mem {x lo hi : Int} (h1 : lo ≤ x) (h2 : x ≤ hi) : clamp x lo hi = (x, false) := by
  rcases clamp_cases x lo hi with h | h | h <;> first | omega | exact h.2.2

/-- With ordered bounds the result lies between them. -/
theorem clamp_mem {x lo hi : Int} (h : lo ≤ hi) : lo ≤ (clamp x lo hi).1 ∧ (clamp x lo hi).1 ≤ hi := by
  rcases clamp_cases x lo hi with ⟨_, e⟩ | ⟨_, _, e⟩ | ⟨_, _, e⟩ <;> rw [e] <;> simp <;> omega

/-- With ordered bounds the result is the middle of the three. -/
theorem clamp_fst {x lo hi : Int} (h : lo ≤ hi) : (clamp x lo hi).1 = min (max x lo) hi := by
  rcases clamp_cases x lo hi with ⟨_, e⟩ | ⟨_, _, e⟩ | ⟨_, _, e⟩ <;> rw [e] <;> simp <;> omega

/-- The second result says that the first differs from the argument. -/
theorem clamp_snd (x lo hi : Int) : (clamp x lo hi).2 = (decide (x < lo) || decide (hi < x)) := by
  rcases clamp_cases x lo hi with ⟨h, e⟩ | ⟨h, h', e⟩ | ⟨h, h', e⟩ <;> rw [e] <;> simp <;> omega

theorem sat_16 (x : Int) : sat x Config.W = clamp x (-32768) 32767 := rfl

theorem sat_32 (x : Int) : sat x Config.AW = clamp x (-2147483648) 2147483647 := rfl

theorem rndShr_15 (x : Int) : rndShr x Config.F = (x + 16384) / 32768 := rfl

theorem toAcc_eq (v : Int) : toAcc v = v * 32768 := rfl

theorem fromAcc_eq (x : Int) : fromAcc x = (x + 16384) / 32768 := rfl

theorem toTicks_eq (d : Int) (r : Nat) : toTicks d r = (d.toNat * r / 32768, decide (d < 0)) := rfl

/-- A 16-bit word's signed value. -/
theorem toInt_range (w : BitVec 16) : -32768 ≤ w.toInt ∧ w.toInt ≤ 32767 := by
  have := BitVec.toInt_lt (x := w)
  have := BitVec.le_toInt (x := w)
  omega

/-- An in-range integer is read back from the 16-bit word it is written to. -/
theorem toInt_ofInt_16 {v : Int} (h1 : -32768 ≤ v) (h2 : v ≤ 32767) : (BitVec.ofInt 16 v).toInt = v := by
  rw [BitVec.toInt_ofInt]
  exact Int.bmod_eq_of_le (by omega) (by omega)

/-- An in-range integer is read back from the 32-bit word it is written to. -/
theorem toInt_ofInt_32 {v : Int} (h1 : -2147483648 ≤ v) (h2 : v ≤ 2147483647) : (BitVec.ofInt 32 v).toInt = v := by
  rw [BitVec.toInt_ofInt]
  exact Int.bmod_eq_of_le (by omega) (by omega)

/-- The product of two single-width values (40_fpuq.md R110 c). -/
theorem product_range {a b : Int} (ha : -32768 ≤ a ∧ a ≤ 32767) (hb : -32768 ≤ b ∧ b ≤ 32767) :
    -1073709056 ≤ a * b ∧ a * b ≤ 1073741824 := by
  obtain ⟨ha1, ha2⟩ := ha
  obtain ⟨hb1, hb2⟩ := hb
  constructor <;> nlinarith

/-- `to_fixed` with the calibration of this hardware (40_fpuq.md R106). -/
theorem toFixed_params (raw : BitVec 10) : toFixed Config.params raw.toNat = raw.toNat * 32 := by
  have := raw.isLt
  have h : (((raw.toNat : Int) - Config.params.rawBias) * 2 ^ Config.params.rawShift) = raw.toNat * 32 := by
    simp [Config.params]
  rw [toFixed, h, sat_16, clamp_of_mem (by omega) (by omega)]

/-- The rescaled integrator lies between bounds whose scaled values hold it (40_fpuq.md R108). -/
theorem fromAcc_mem {x lo hi : Int} (h1 : toAcc lo ≤ x) (h2 : x ≤ toAcc hi) : lo ≤ fromAcc x ∧ fromAcc x ≤ hi := by
  rw [toAcc_eq] at h1 h2
  rw [fromAcc_eq]
  omega

/-- The tick count is below the range (40_fpuq.md R109). -/
theorem toTicks_lt {d : Int} {r : Nat} (hd : d ≤ 32767) (hr : 0 < r) : (toTicks d r).1 < r := by
  rw [toTicks_eq]
  have h : d.toNat ≤ 32767 := by omega
  have : d.toNat * r ≤ 32767 * r := Nat.mul_le_mul_right r h
  exact Nat.div_lt_of_lt_mul (by omega)

end Sys2Proof.Machine
end

