-- ==== Sys2Proof/Laws/State.lean ====
section
/-! SUPPORT. The state beside its named updates: one lemma for each field after each update, so that no proof unfolds a
record update. -/

namespace Sys2Proof.Machine

/-! ### InvalidConfig (60_exceptions.md R191) -/

@[simp] theorem raise_invalidConfig_setpoint (s : State) : (raise .invalidConfig s).setpoint = s.setpoint := rfl
@[simp] theorem raise_invalidConfig_kp (s : State) : (raise .invalidConfig s).kp = s.kp := rfl
@[simp] theorem raise_invalidConfig_ki (s : State) : (raise .invalidConfig s).ki = s.ki := rfl
@[simp] theorem raise_invalidConfig_outMin (s : State) : (raise .invalidConfig s).outMin = s.outMin := rfl
@[simp] theorem raise_invalidConfig_outMax (s : State) : (raise .invalidConfig s).outMax = s.outMax := rfl
@[simp] theorem raise_invalidConfig_integ (s : State) : (raise .invalidConfig s).integ = s.integ := rfl
@[simp] theorem raise_invalidConfig_dutyOut (s : State) : (raise .invalidConfig s).dutyOut = s.dutyOut := rfl
@[simp] theorem raise_invalidConfig_dutyShadow (s : State) : (raise .invalidConfig s).dutyShadow = s.dutyShadow := rfl
@[simp] theorem raise_invalidConfig_dutyActive (s : State) : (raise .invalidConfig s).dutyActive = s.dutyActive := rfl
@[simp] theorem raise_invalidConfig_period (s : State) : (raise .invalidConfig s).period = s.period := rfl
@[simp] theorem raise_invalidConfig_mode (s : State) : (raise .invalidConfig s).mode = s.mode := rfl
@[simp] theorem raise_invalidConfig_pol (s : State) : (raise .invalidConfig s).pol = s.pol := rfl
@[simp] theorem raise_invalidConfig_deadtime (s : State) : (raise .invalidConfig s).deadtime = s.deadtime := rfl
@[simp] theorem raise_invalidConfig_phase (s : State) : (raise .invalidConfig s).phase = s.phase := rfl
@[simp] theorem raise_invalidConfig_pwmState (s : State) : (raise .invalidConfig s).pwmState = .idle := rfl
@[simp] theorem raise_invalidConfig_engState (s : State) : (raise .invalidConfig s).engState = s.engState := rfl
@[simp] theorem raise_invalidConfig_init (s : State) : (raise .invalidConfig s).init = s.init := rfl
@[simp] theorem raise_invalidConfig_channel (s : State) : (raise .invalidConfig s).channel = s.channel := rfl
@[simp] theorem raise_invalidConfig_smpCh (s : State) : (raise .invalidConfig s).smpCh = s.smpCh := rfl
@[simp] theorem raise_invalidConfig_smpArmed (s : State) : (raise .invalidConfig s).smpArmed = s.smpArmed := rfl
@[simp] theorem raise_invalidConfig_rawSample (s : State) : (raise .invalidConfig s).rawSample = s.rawSample := rfl
@[simp] theorem raise_invalidConfig_samplePending (s : State) : (raise .invalidConfig s).samplePending = s.samplePending := rfl
@[simp] theorem raise_invalidConfig_missed (s : State) : (raise .invalidConfig s).missed = s.missed := rfl
@[simp] theorem raise_invalidConfig_sat (s : State) : (raise .invalidConfig s).sat = s.sat := rfl
@[simp] theorem raise_invalidConfig_satI (s : State) : (raise .invalidConfig s).satI = s.satI := rfl
@[simp] theorem raise_invalidConfig_satD (s : State) : (raise .invalidConfig s).satD = s.satD := rfl
@[simp] theorem raise_invalidConfig_satSticky (s : State) : (raise .invalidConfig s).satSticky = s.satSticky := rfl
@[simp] theorem raise_invalidConfig_cfgErr (s : State) : (raise .invalidConfig s).cfgErr = true := rfl
@[simp] theorem raise_invalidConfig_cmdRej (s : State) : (raise .invalidConfig s).cmdRej = s.cmdRej := rfl
@[simp] theorem raise_invalidConfig_stimuli (s : State) : (raise .invalidConfig s).stimuli = s.stimuli := rfl
@[simp] theorem raise_invalidConfig_readData (s : State) : (raise .invalidConfig s).readData = s.readData := rfl
@[simp] theorem raise_invalidConfig_trigger (s : State) : (raise .invalidConfig s).trigger = s.trigger := rfl

/-! ### MissedSample (60_exceptions.md R192) -/

@[simp] theorem raise_missedSample_setpoint (s : State) : (raise .missedSample s).setpoint = s.setpoint := rfl
@[simp] theorem raise_missedSample_kp (s : State) : (raise .missedSample s).kp = s.kp := rfl
@[simp] theorem raise_missedSample_ki (s : State) : (raise .missedSample s).ki = s.ki := rfl
@[simp] theorem raise_missedSample_outMin (s : State) : (raise .missedSample s).outMin = s.outMin := rfl
@[simp] theorem raise_missedSample_outMax (s : State) : (raise .missedSample s).outMax = s.outMax := rfl
@[simp] theorem raise_missedSample_integ (s : State) : (raise .missedSample s).integ = s.integ := rfl
@[simp] theorem raise_missedSample_dutyOut (s : State) : (raise .missedSample s).dutyOut = s.dutyOut := rfl
@[simp] theorem raise_missedSample_dutyShadow (s : State) : (raise .missedSample s).dutyShadow = s.dutyShadow := rfl
@[simp] theorem raise_missedSample_dutyActive (s : State) : (raise .missedSample s).dutyActive = s.dutyActive := rfl
@[simp] theorem raise_missedSample_period (s : State) : (raise .missedSample s).period = s.period := rfl
@[simp] theorem raise_missedSample_mode (s : State) : (raise .missedSample s).mode = s.mode := rfl
@[simp] theorem raise_missedSample_pol (s : State) : (raise .missedSample s).pol = s.pol := rfl
@[simp] theorem raise_missedSample_deadtime (s : State) : (raise .missedSample s).deadtime = s.deadtime := rfl
@[simp] theorem raise_missedSample_phase (s : State) : (raise .missedSample s).phase = s.phase := rfl
@[simp] theorem raise_missedSample_pwmState (s : State) : (raise .missedSample s).pwmState = s.pwmState := rfl
@[simp] theorem raise_missedSample_engState (s : State) : (raise .missedSample s).engState = s.engState := rfl
@[simp] theorem raise_missedSample_init (s : State) : (raise .missedSample s).init = s.init := rfl
@[simp] theorem raise_missedSample_channel (s : State) : (raise .missedSample s).channel = s.channel := rfl
@[simp] theorem raise_missedSample_smpCh (s : State) : (raise .missedSample s).smpCh = s.smpCh := rfl
@[simp] theorem raise_missedSample_smpArmed (s : State) : (raise .missedSample s).smpArmed = s.smpArmed := rfl
@[simp] theorem raise_missedSample_rawSample (s : State) : (raise .missedSample s).rawSample = s.rawSample := rfl
@[simp] theorem raise_missedSample_samplePending (s : State) : (raise .missedSample s).samplePending = s.samplePending := rfl
@[simp] theorem raise_missedSample_missed (s : State) : (raise .missedSample s).missed = BitVec.ofNat 16 (min (s.missed.toNat + 1) 65535) := rfl
@[simp] theorem raise_missedSample_sat (s : State) : (raise .missedSample s).sat = s.sat := rfl
@[simp] theorem raise_missedSample_satI (s : State) : (raise .missedSample s).satI = s.satI := rfl
@[simp] theorem raise_missedSample_satD (s : State) : (raise .missedSample s).satD = s.satD := rfl
@[simp] theorem raise_missedSample_satSticky (s : State) : (raise .missedSample s).satSticky = s.satSticky := rfl
@[simp] theorem raise_missedSample_cfgErr (s : State) : (raise .missedSample s).cfgErr = s.cfgErr := rfl
@[simp] theorem raise_missedSample_cmdRej (s : State) : (raise .missedSample s).cmdRej = s.cmdRej := rfl
@[simp] theorem raise_missedSample_stimuli (s : State) : (raise .missedSample s).stimuli = s.stimuli := rfl
@[simp] theorem raise_missedSample_readData (s : State) : (raise .missedSample s).readData = s.readData := rfl
@[simp] theorem raise_missedSample_trigger (s : State) : (raise .missedSample s).trigger = s.trigger := rfl

/-! ### SaturationEngaged (60_exceptions.md R193) -/

@[simp] theorem raise_saturation_setpoint (x y : Bool) (s : State) : (raise (.saturationEngaged x y) s).setpoint = s.setpoint := rfl
@[simp] theorem raise_saturation_kp (x y : Bool) (s : State) : (raise (.saturationEngaged x y) s).kp = s.kp := rfl
@[simp] theorem raise_saturation_ki (x y : Bool) (s : State) : (raise (.saturationEngaged x y) s).ki = s.ki := rfl
@[simp] theorem raise_saturation_outMin (x y : Bool) (s : State) : (raise (.saturationEngaged x y) s).outMin = s.outMin := rfl
@[simp] theorem raise_saturation_outMax (x y : Bool) (s : State) : (raise (.saturationEngaged x y) s).outMax = s.outMax := rfl
@[simp] theorem raise_saturation_integ (x y : Bool) (s : State) : (raise (.saturationEngaged x y) s).integ = s.integ := rfl
@[simp] theorem raise_saturation_dutyOut (x y : Bool) (s : State) : (raise (.saturationEngaged x y) s).dutyOut = s.dutyOut := rfl
@[simp] theorem raise_saturation_dutyShadow (x y : Bool) (s : State) : (raise (.saturationEngaged x y) s).dutyShadow = s.dutyShadow := rfl
@[simp] theorem raise_saturation_dutyActive (x y : Bool) (s : State) : (raise (.saturationEngaged x y) s).dutyActive = s.dutyActive := rfl
@[simp] theorem raise_saturation_period (x y : Bool) (s : State) : (raise (.saturationEngaged x y) s).period = s.period := rfl
@[simp] theorem raise_saturation_mode (x y : Bool) (s : State) : (raise (.saturationEngaged x y) s).mode = s.mode := rfl
@[simp] theorem raise_saturation_pol (x y : Bool) (s : State) : (raise (.saturationEngaged x y) s).pol = s.pol := rfl
@[simp] theorem raise_saturation_deadtime (x y : Bool) (s : State) : (raise (.saturationEngaged x y) s).deadtime = s.deadtime := rfl
@[simp] theorem raise_saturation_phase (x y : Bool) (s : State) : (raise (.saturationEngaged x y) s).phase = s.phase := rfl
@[simp] theorem raise_saturation_pwmState (x y : Bool) (s : State) : (raise (.saturationEngaged x y) s).pwmState = s.pwmState := rfl
@[simp] theorem raise_saturation_engState (x y : Bool) (s : State) : (raise (.saturationEngaged x y) s).engState = s.engState := rfl
@[simp] theorem raise_saturation_init (x y : Bool) (s : State) : (raise (.saturationEngaged x y) s).init = s.init := rfl
@[simp] theorem raise_saturation_channel (x y : Bool) (s : State) : (raise (.saturationEngaged x y) s).channel = s.channel := rfl
@[simp] theorem raise_saturation_smpCh (x y : Bool) (s : State) : (raise (.saturationEngaged x y) s).smpCh = s.smpCh := rfl
@[simp] theorem raise_saturation_smpArmed (x y : Bool) (s : State) : (raise (.saturationEngaged x y) s).smpArmed = s.smpArmed := rfl
@[simp] theorem raise_saturation_rawSample (x y : Bool) (s : State) : (raise (.saturationEngaged x y) s).rawSample = s.rawSample := rfl
@[simp] theorem raise_saturation_samplePending (x y : Bool) (s : State) : (raise (.saturationEngaged x y) s).samplePending = s.samplePending := rfl
@[simp] theorem raise_saturation_missed (x y : Bool) (s : State) : (raise (.saturationEngaged x y) s).missed = s.missed := rfl
@[simp] theorem raise_saturation_sat (x y : Bool) (s : State) : (raise (.saturationEngaged x y) s).sat = (x || y) := rfl
@[simp] theorem raise_saturation_satI (x y : Bool) (s : State) : (raise (.saturationEngaged x y) s).satI = x := rfl
@[simp] theorem raise_saturation_satD (x y : Bool) (s : State) : (raise (.saturationEngaged x y) s).satD = y := rfl
@[simp] theorem raise_saturation_satSticky (x y : Bool) (s : State) : (raise (.saturationEngaged x y) s).satSticky = (s.satSticky || (x || y)) := rfl
@[simp] theorem raise_saturation_cfgErr (x y : Bool) (s : State) : (raise (.saturationEngaged x y) s).cfgErr = s.cfgErr := rfl
@[simp] theorem raise_saturation_cmdRej (x y : Bool) (s : State) : (raise (.saturationEngaged x y) s).cmdRej = s.cmdRej := rfl
@[simp] theorem raise_saturation_stimuli (x y : Bool) (s : State) : (raise (.saturationEngaged x y) s).stimuli = s.stimuli := rfl
@[simp] theorem raise_saturation_readData (x y : Bool) (s : State) : (raise (.saturationEngaged x y) s).readData = s.readData := rfl
@[simp] theorem raise_saturation_trigger (x y : Bool) (s : State) : (raise (.saturationEngaged x y) s).trigger = s.trigger := rfl

/-! ### CommandRejected (60_exceptions.md R194) -/

@[simp] theorem raise_commandRejected_setpoint (s : State) : (raise .commandRejected s).setpoint = s.setpoint := rfl
@[simp] theorem raise_commandRejected_kp (s : State) : (raise .commandRejected s).kp = s.kp := rfl
@[simp] theorem raise_commandRejected_ki (s : State) : (raise .commandRejected s).ki = s.ki := rfl
@[simp] theorem raise_commandRejected_outMin (s : State) : (raise .commandRejected s).outMin = s.outMin := rfl
@[simp] theorem raise_commandRejected_outMax (s : State) : (raise .commandRejected s).outMax = s.outMax := rfl
@[simp] theorem raise_commandRejected_integ (s : State) : (raise .commandRejected s).integ = s.integ := rfl
@[simp] theorem raise_commandRejected_dutyOut (s : State) : (raise .commandRejected s).dutyOut = s.dutyOut := rfl
@[simp] theorem raise_commandRejected_dutyShadow (s : State) : (raise .commandRejected s).dutyShadow = s.dutyShadow := rfl
@[simp] theorem raise_commandRejected_dutyActive (s : State) : (raise .commandRejected s).dutyActive = s.dutyActive := rfl
@[simp] theorem raise_commandRejected_period (s : State) : (raise .commandRejected s).period = s.period := rfl
@[simp] theorem raise_commandRejected_mode (s : State) : (raise .commandRejected s).mode = s.mode := rfl
@[simp] theorem raise_commandRejected_pol (s : State) : (raise .commandRejected s).pol = s.pol := rfl
@[simp] theorem raise_commandRejected_deadtime (s : State) : (raise .commandRejected s).deadtime = s.deadtime := rfl
@[simp] theorem raise_commandRejected_phase (s : State) : (raise .commandRejected s).phase = s.phase := rfl
@[simp] theorem raise_commandRejected_pwmState (s : State) : (raise .commandRejected s).pwmState = s.pwmState := rfl
@[simp] theorem raise_commandRejected_engState (s : State) : (raise .commandRejected s).engState = s.engState := rfl
@[simp] theorem raise_commandRejected_init (s : State) : (raise .commandRejected s).init = s.init := rfl
@[simp] theorem raise_commandRejected_channel (s : State) : (raise .commandRejected s).channel = s.channel := rfl
@[simp] theorem raise_commandRejected_smpCh (s : State) : (raise .commandRejected s).smpCh = s.smpCh := rfl
@[simp] theorem raise_commandRejected_smpArmed (s : State) : (raise .commandRejected s).smpArmed = s.smpArmed := rfl
@[simp] theorem raise_commandRejected_rawSample (s : State) : (raise .commandRejected s).rawSample = s.rawSample := rfl
@[simp] theorem raise_commandRejected_samplePending (s : State) : (raise .commandRejected s).samplePending = s.samplePending := rfl
@[simp] theorem raise_commandRejected_missed (s : State) : (raise .commandRejected s).missed = s.missed := rfl
@[simp] theorem raise_commandRejected_sat (s : State) : (raise .commandRejected s).sat = s.sat := rfl
@[simp] theorem raise_commandRejected_satI (s : State) : (raise .commandRejected s).satI = s.satI := rfl
@[simp] theorem raise_commandRejected_satD (s : State) : (raise .commandRejected s).satD = s.satD := rfl
@[simp] theorem raise_commandRejected_satSticky (s : State) : (raise .commandRejected s).satSticky = s.satSticky := rfl
@[simp] theorem raise_commandRejected_cfgErr (s : State) : (raise .commandRejected s).cfgErr = s.cfgErr := rfl
@[simp] theorem raise_commandRejected_cmdRej (s : State) : (raise .commandRejected s).cmdRej = true := rfl
@[simp] theorem raise_commandRejected_stimuli (s : State) : (raise .commandRejected s).stimuli = s.stimuli := rfl
@[simp] theorem raise_commandRejected_readData (s : State) : (raise .commandRejected s).readData = s.readData := rfl
@[simp] theorem raise_commandRejected_trigger (s : State) : (raise .commandRejected s).trigger = s.trigger := rfl

/-! ### Clearing sticky flags (44_host_port.md R175) -/

@[simp] theorem clearSticky_setpoint (d : Word) (s : State) : (clearSticky d s).setpoint = s.setpoint := rfl
@[simp] theorem clearSticky_kp (d : Word) (s : State) : (clearSticky d s).kp = s.kp := rfl
@[simp] theorem clearSticky_ki (d : Word) (s : State) : (clearSticky d s).ki = s.ki := rfl
@[simp] theorem clearSticky_outMin (d : Word) (s : State) : (clearSticky d s).outMin = s.outMin := rfl
@[simp] theorem clearSticky_outMax (d : Word) (s : State) : (clearSticky d s).outMax = s.outMax := rfl
@[simp] theorem clearSticky_integ (d : Word) (s : State) : (clearSticky d s).integ = s.integ := rfl
@[simp] theorem clearSticky_dutyOut (d : Word) (s : State) : (clearSticky d s).dutyOut = s.dutyOut := rfl
@[simp] theorem clearSticky_dutyShadow (d : Word) (s : State) : (clearSticky d s).dutyShadow = s.dutyShadow := rfl
@[simp] theorem clearSticky_dutyActive (d : Word) (s : State) : (clearSticky d s).dutyActive = s.dutyActive := rfl
@[simp] theorem clearSticky_period (d : Word) (s : State) : (clearSticky d s).period = s.period := rfl
@[simp] theorem clearSticky_mode (d : Word) (s : State) : (clearSticky d s).mode = s.mode := rfl
@[simp] theorem clearSticky_pol (d : Word) (s : State) : (clearSticky d s).pol = s.pol := rfl
@[simp] theorem clearSticky_deadtime (d : Word) (s : State) : (clearSticky d s).deadtime = s.deadtime := rfl
@[simp] theorem clearSticky_phase (d : Word) (s : State) : (clearSticky d s).phase = s.phase := rfl
@[simp] theorem clearSticky_pwmState (d : Word) (s : State) : (clearSticky d s).pwmState = s.pwmState := rfl
@[simp] theorem clearSticky_engState (d : Word) (s : State) : (clearSticky d s).engState = s.engState := rfl
@[simp] theorem clearSticky_init (d : Word) (s : State) : (clearSticky d s).init = s.init := rfl
@[simp] theorem clearSticky_channel (d : Word) (s : State) : (clearSticky d s).channel = s.channel := rfl
@[simp] theorem clearSticky_smpCh (d : Word) (s : State) : (clearSticky d s).smpCh = s.smpCh := rfl
@[simp] theorem clearSticky_smpArmed (d : Word) (s : State) : (clearSticky d s).smpArmed = s.smpArmed := rfl
@[simp] theorem clearSticky_rawSample (d : Word) (s : State) : (clearSticky d s).rawSample = s.rawSample := rfl
@[simp] theorem clearSticky_samplePending (d : Word) (s : State) : (clearSticky d s).samplePending = s.samplePending := rfl
@[simp] theorem clearSticky_missed (d : Word) (s : State) : (clearSticky d s).missed = s.missed := rfl
@[simp] theorem clearSticky_sat (d : Word) (s : State) : (clearSticky d s).sat = s.sat := rfl
@[simp] theorem clearSticky_satI (d : Word) (s : State) : (clearSticky d s).satI = s.satI := rfl
@[simp] theorem clearSticky_satD (d : Word) (s : State) : (clearSticky d s).satD = s.satD := rfl
@[simp] theorem clearSticky_satSticky (d : Word) (s : State) : (clearSticky d s).satSticky = (s.satSticky && !d.getLsbD 9) := rfl
@[simp] theorem clearSticky_cfgErr (d : Word) (s : State) : (clearSticky d s).cfgErr = (s.cfgErr && !d.getLsbD 10) := rfl
@[simp] theorem clearSticky_cmdRej (d : Word) (s : State) : (clearSticky d s).cmdRej = (s.cmdRej && !d.getLsbD 11) := rfl
@[simp] theorem clearSticky_stimuli (d : Word) (s : State) : (clearSticky d s).stimuli = s.stimuli := rfl
@[simp] theorem clearSticky_readData (d : Word) (s : State) : (clearSticky d s).readData = s.readData := rfl
@[simp] theorem clearSticky_trigger (d : Word) (s : State) : (clearSticky d s).trigger = s.trigger := rfl

/-! ### The duty latch (41_waveform.md R129) -/

@[simp] theorem latchDuty_setpoint (s : State) : (latchDuty s).setpoint = s.setpoint := rfl
@[simp] theorem latchDuty_kp (s : State) : (latchDuty s).kp = s.kp := rfl
@[simp] theorem latchDuty_ki (s : State) : (latchDuty s).ki = s.ki := rfl
@[simp] theorem latchDuty_outMin (s : State) : (latchDuty s).outMin = s.outMin := rfl
@[simp] theorem latchDuty_outMax (s : State) : (latchDuty s).outMax = s.outMax := rfl
@[simp] theorem latchDuty_integ (s : State) : (latchDuty s).integ = s.integ := rfl
@[simp] theorem latchDuty_dutyOut (s : State) : (latchDuty s).dutyOut = s.dutyOut := rfl
@[simp] theorem latchDuty_dutyShadow (s : State) : (latchDuty s).dutyShadow = s.dutyShadow := rfl
@[simp] theorem latchDuty_dutyActive (s : State) : (latchDuty s).dutyActive = BitVec.ofNat 16 (latchValue s) := rfl
@[simp] theorem latchDuty_period (s : State) : (latchDuty s).period = s.period := rfl
@[simp] theorem latchDuty_mode (s : State) : (latchDuty s).mode = s.mode := rfl
@[simp] theorem latchDuty_pol (s : State) : (latchDuty s).pol = s.pol := rfl
@[simp] theorem latchDuty_deadtime (s : State) : (latchDuty s).deadtime = s.deadtime := rfl
@[simp] theorem latchDuty_phase (s : State) : (latchDuty s).phase = s.phase := rfl
@[simp] theorem latchDuty_pwmState (s : State) : (latchDuty s).pwmState = s.pwmState := rfl
@[simp] theorem latchDuty_engState (s : State) : (latchDuty s).engState = s.engState := rfl
@[simp] theorem latchDuty_init (s : State) : (latchDuty s).init = s.init := rfl
@[simp] theorem latchDuty_channel (s : State) : (latchDuty s).channel = s.channel := rfl
@[simp] theorem latchDuty_smpCh (s : State) : (latchDuty s).smpCh = s.smpCh := rfl
@[simp] theorem latchDuty_smpArmed (s : State) : (latchDuty s).smpArmed = s.smpArmed := rfl
@[simp] theorem latchDuty_rawSample (s : State) : (latchDuty s).rawSample = s.rawSample := rfl
@[simp] theorem latchDuty_samplePending (s : State) : (latchDuty s).samplePending = s.samplePending := rfl
@[simp] theorem latchDuty_missed (s : State) : (latchDuty s).missed = s.missed := rfl
@[simp] theorem latchDuty_sat (s : State) : (latchDuty s).sat = s.sat := rfl
@[simp] theorem latchDuty_satI (s : State) : (latchDuty s).satI = s.satI := rfl
@[simp] theorem latchDuty_satD (s : State) : (latchDuty s).satD = s.satD := rfl
@[simp] theorem latchDuty_satSticky (s : State) : (latchDuty s).satSticky = s.satSticky := rfl
@[simp] theorem latchDuty_cfgErr (s : State) : (latchDuty s).cfgErr = s.cfgErr := rfl
@[simp] theorem latchDuty_cmdRej (s : State) : (latchDuty s).cmdRej = s.cmdRej := rfl
@[simp] theorem latchDuty_stimuli (s : State) : (latchDuty s).stimuli = s.stimuli := rfl
@[simp] theorem latchDuty_readData (s : State) : (latchDuty s).readData = s.readData := rfl
@[simp] theorem latchDuty_trigger (s : State) : (latchDuty s).trigger = s.trigger := rfl

/-! ### The duty command (41_waveform.md R131) -/

@[simp] theorem setDuty_setpoint (n : Nat) (s : State) : (setDuty n s).setpoint = s.setpoint := rfl
@[simp] theorem setDuty_kp (n : Nat) (s : State) : (setDuty n s).kp = s.kp := rfl
@[simp] theorem setDuty_ki (n : Nat) (s : State) : (setDuty n s).ki = s.ki := rfl
@[simp] theorem setDuty_outMin (n : Nat) (s : State) : (setDuty n s).outMin = s.outMin := rfl
@[simp] theorem setDuty_outMax (n : Nat) (s : State) : (setDuty n s).outMax = s.outMax := rfl
@[simp] theorem setDuty_integ (n : Nat) (s : State) : (setDuty n s).integ = s.integ := rfl
@[simp] theorem setDuty_dutyOut (n : Nat) (s : State) : (setDuty n s).dutyOut = s.dutyOut := rfl
@[simp] theorem setDuty_dutyShadow (n : Nat) (s : State) : (setDuty n s).dutyShadow = BitVec.ofNat 16 (min n 65535) := rfl
@[simp] theorem setDuty_dutyActive (n : Nat) (s : State) : (setDuty n s).dutyActive = s.dutyActive := rfl
@[simp] theorem setDuty_period (n : Nat) (s : State) : (setDuty n s).period = s.period := rfl
@[simp] theorem setDuty_mode (n : Nat) (s : State) : (setDuty n s).mode = s.mode := rfl
@[simp] theorem setDuty_pol (n : Nat) (s : State) : (setDuty n s).pol = s.pol := rfl
@[simp] theorem setDuty_deadtime (n : Nat) (s : State) : (setDuty n s).deadtime = s.deadtime := rfl
@[simp] theorem setDuty_phase (n : Nat) (s : State) : (setDuty n s).phase = s.phase := rfl
@[simp] theorem setDuty_pwmState (n : Nat) (s : State) : (setDuty n s).pwmState = s.pwmState := rfl
@[simp] theorem setDuty_engState (n : Nat) (s : State) : (setDuty n s).engState = s.engState := rfl
@[simp] theorem setDuty_init (n : Nat) (s : State) : (setDuty n s).init = s.init := rfl
@[simp] theorem setDuty_channel (n : Nat) (s : State) : (setDuty n s).channel = s.channel := rfl
@[simp] theorem setDuty_smpCh (n : Nat) (s : State) : (setDuty n s).smpCh = s.smpCh := rfl
@[simp] theorem setDuty_smpArmed (n : Nat) (s : State) : (setDuty n s).smpArmed = s.smpArmed := rfl
@[simp] theorem setDuty_rawSample (n : Nat) (s : State) : (setDuty n s).rawSample = s.rawSample := rfl
@[simp] theorem setDuty_samplePending (n : Nat) (s : State) : (setDuty n s).samplePending = s.samplePending := rfl
@[simp] theorem setDuty_missed (n : Nat) (s : State) : (setDuty n s).missed = s.missed := rfl
@[simp] theorem setDuty_sat (n : Nat) (s : State) : (setDuty n s).sat = s.sat := rfl
@[simp] theorem setDuty_satI (n : Nat) (s : State) : (setDuty n s).satI = s.satI := rfl
@[simp] theorem setDuty_satD (n : Nat) (s : State) : (setDuty n s).satD = s.satD := rfl
@[simp] theorem setDuty_satSticky (n : Nat) (s : State) : (setDuty n s).satSticky = s.satSticky := rfl
@[simp] theorem setDuty_cfgErr (n : Nat) (s : State) : (setDuty n s).cfgErr = s.cfgErr := rfl
@[simp] theorem setDuty_cmdRej (n : Nat) (s : State) : (setDuty n s).cmdRej = s.cmdRej := rfl
@[simp] theorem setDuty_stimuli (n : Nat) (s : State) : (setDuty n s).stimuli = s.stimuli := rfl
@[simp] theorem setDuty_readData (n : Nat) (s : State) : (setDuty n s).readData = s.readData := rfl
@[simp] theorem setDuty_trigger (n : Nat) (s : State) : (setDuty n s).trigger = s.trigger := rfl

/-! ### The end of the one-step outputs -/

@[simp] theorem lowerOutputs_setpoint (s : State) : (lowerOutputs s).setpoint = s.setpoint := rfl
@[simp] theorem lowerOutputs_kp (s : State) : (lowerOutputs s).kp = s.kp := rfl
@[simp] theorem lowerOutputs_ki (s : State) : (lowerOutputs s).ki = s.ki := rfl
@[simp] theorem lowerOutputs_outMin (s : State) : (lowerOutputs s).outMin = s.outMin := rfl
@[simp] theorem lowerOutputs_outMax (s : State) : (lowerOutputs s).outMax = s.outMax := rfl
@[simp] theorem lowerOutputs_integ (s : State) : (lowerOutputs s).integ = s.integ := rfl
@[simp] theorem lowerOutputs_dutyOut (s : State) : (lowerOutputs s).dutyOut = s.dutyOut := rfl
@[simp] theorem lowerOutputs_dutyShadow (s : State) : (lowerOutputs s).dutyShadow = s.dutyShadow := rfl
@[simp] theorem lowerOutputs_dutyActive (s : State) : (lowerOutputs s).dutyActive = s.dutyActive := rfl
@[simp] theorem lowerOutputs_period (s : State) : (lowerOutputs s).period = s.period := rfl
@[simp] theorem lowerOutputs_mode (s : State) : (lowerOutputs s).mode = s.mode := rfl
@[simp] theorem lowerOutputs_pol (s : State) : (lowerOutputs s).pol = s.pol := rfl
@[simp] theorem lowerOutputs_deadtime (s : State) : (lowerOutputs s).deadtime = s.deadtime := rfl
@[simp] theorem lowerOutputs_phase (s : State) : (lowerOutputs s).phase = s.phase := rfl
@[simp] theorem lowerOutputs_pwmState (s : State) : (lowerOutputs s).pwmState = s.pwmState := rfl
@[simp] theorem lowerOutputs_engState (s : State) : (lowerOutputs s).engState = s.engState := rfl
@[simp] theorem lowerOutputs_init (s : State) : (lowerOutputs s).init = s.init := rfl
@[simp] theorem lowerOutputs_channel (s : State) : (lowerOutputs s).channel = s.channel := rfl
@[simp] theorem lowerOutputs_smpCh (s : State) : (lowerOutputs s).smpCh = s.smpCh := rfl
@[simp] theorem lowerOutputs_smpArmed (s : State) : (lowerOutputs s).smpArmed = s.smpArmed := rfl
@[simp] theorem lowerOutputs_rawSample (s : State) : (lowerOutputs s).rawSample = s.rawSample := rfl
@[simp] theorem lowerOutputs_samplePending (s : State) : (lowerOutputs s).samplePending = s.samplePending := rfl
@[simp] theorem lowerOutputs_missed (s : State) : (lowerOutputs s).missed = s.missed := rfl
@[simp] theorem lowerOutputs_sat (s : State) : (lowerOutputs s).sat = s.sat := rfl
@[simp] theorem lowerOutputs_satI (s : State) : (lowerOutputs s).satI = s.satI := rfl
@[simp] theorem lowerOutputs_satD (s : State) : (lowerOutputs s).satD = s.satD := rfl
@[simp] theorem lowerOutputs_satSticky (s : State) : (lowerOutputs s).satSticky = s.satSticky := rfl
@[simp] theorem lowerOutputs_cfgErr (s : State) : (lowerOutputs s).cfgErr = s.cfgErr := rfl
@[simp] theorem lowerOutputs_cmdRej (s : State) : (lowerOutputs s).cmdRej = s.cmdRej := rfl
@[simp] theorem lowerOutputs_stimuli (s : State) : (lowerOutputs s).stimuli = s.stimuli := rfl
@[simp] theorem lowerOutputs_readData (s : State) : (lowerOutputs s).readData = none := rfl
@[simp] theorem lowerOutputs_trigger (s : State) : (lowerOutputs s).trigger = false := rfl

/-! ### The arrival of a stimulus -/

@[simp] theorem accept_setpoint (q : List StimulusWord) (s : State) : (accept q s).setpoint = s.setpoint := rfl
@[simp] theorem accept_kp (q : List StimulusWord) (s : State) : (accept q s).kp = s.kp := rfl
@[simp] theorem accept_ki (q : List StimulusWord) (s : State) : (accept q s).ki = s.ki := rfl
@[simp] theorem accept_outMin (q : List StimulusWord) (s : State) : (accept q s).outMin = s.outMin := rfl
@[simp] theorem accept_outMax (q : List StimulusWord) (s : State) : (accept q s).outMax = s.outMax := rfl
@[simp] theorem accept_integ (q : List StimulusWord) (s : State) : (accept q s).integ = s.integ := rfl
@[simp] theorem accept_dutyOut (q : List StimulusWord) (s : State) : (accept q s).dutyOut = s.dutyOut := rfl
@[simp] theorem accept_dutyShadow (q : List StimulusWord) (s : State) : (accept q s).dutyShadow = s.dutyShadow := rfl
@[simp] theorem accept_dutyActive (q : List StimulusWord) (s : State) : (accept q s).dutyActive = s.dutyActive := rfl
@[simp] theorem accept_period (q : List StimulusWord) (s : State) : (accept q s).period = s.period := rfl
@[simp] theorem accept_mode (q : List StimulusWord) (s : State) : (accept q s).mode = s.mode := rfl
@[simp] theorem accept_pol (q : List StimulusWord) (s : State) : (accept q s).pol = s.pol := rfl
@[simp] theorem accept_deadtime (q : List StimulusWord) (s : State) : (accept q s).deadtime = s.deadtime := rfl
@[simp] theorem accept_phase (q : List StimulusWord) (s : State) : (accept q s).phase = s.phase := rfl
@[simp] theorem accept_pwmState (q : List StimulusWord) (s : State) : (accept q s).pwmState = s.pwmState := rfl
@[simp] theorem accept_engState (q : List StimulusWord) (s : State) : (accept q s).engState = s.engState := rfl
@[simp] theorem accept_init (q : List StimulusWord) (s : State) : (accept q s).init = s.init := rfl
@[simp] theorem accept_channel (q : List StimulusWord) (s : State) : (accept q s).channel = s.channel := rfl
@[simp] theorem accept_smpCh (q : List StimulusWord) (s : State) : (accept q s).smpCh = s.smpCh := rfl
@[simp] theorem accept_smpArmed (q : List StimulusWord) (s : State) : (accept q s).smpArmed = s.smpArmed := rfl
@[simp] theorem accept_rawSample (q : List StimulusWord) (s : State) : (accept q s).rawSample = s.rawSample := rfl
@[simp] theorem accept_samplePending (q : List StimulusWord) (s : State) : (accept q s).samplePending = s.samplePending := rfl
@[simp] theorem accept_missed (q : List StimulusWord) (s : State) : (accept q s).missed = s.missed := rfl
@[simp] theorem accept_sat (q : List StimulusWord) (s : State) : (accept q s).sat = s.sat := rfl
@[simp] theorem accept_satI (q : List StimulusWord) (s : State) : (accept q s).satI = s.satI := rfl
@[simp] theorem accept_satD (q : List StimulusWord) (s : State) : (accept q s).satD = s.satD := rfl
@[simp] theorem accept_satSticky (q : List StimulusWord) (s : State) : (accept q s).satSticky = s.satSticky := rfl
@[simp] theorem accept_cfgErr (q : List StimulusWord) (s : State) : (accept q s).cfgErr = s.cfgErr := rfl
@[simp] theorem accept_cmdRej (q : List StimulusWord) (s : State) : (accept q s).cmdRej = s.cmdRej := rfl
@[simp] theorem accept_stimuli (q : List StimulusWord) (s : State) : (accept q s).stimuli = q := rfl
@[simp] theorem accept_readData (q : List StimulusWord) (s : State) : (accept q s).readData = none := rfl
@[simp] theorem accept_trigger (q : List StimulusWord) (s : State) : (accept q s).trigger = false := rfl

/-! ### The delivery of a stimulus -/

@[simp] theorem deliver_setpoint (w : StimulusWord) (s : State) : (deliver w s).setpoint = s.setpoint := rfl
@[simp] theorem deliver_kp (w : StimulusWord) (s : State) : (deliver w s).kp = s.kp := rfl
@[simp] theorem deliver_ki (w : StimulusWord) (s : State) : (deliver w s).ki = s.ki := rfl
@[simp] theorem deliver_outMin (w : StimulusWord) (s : State) : (deliver w s).outMin = s.outMin := rfl
@[simp] theorem deliver_outMax (w : StimulusWord) (s : State) : (deliver w s).outMax = s.outMax := rfl
@[simp] theorem deliver_integ (w : StimulusWord) (s : State) : (deliver w s).integ = s.integ := rfl
@[simp] theorem deliver_dutyOut (w : StimulusWord) (s : State) : (deliver w s).dutyOut = s.dutyOut := rfl
@[simp] theorem deliver_dutyShadow (w : StimulusWord) (s : State) : (deliver w s).dutyShadow = s.dutyShadow := rfl
@[simp] theorem deliver_dutyActive (w : StimulusWord) (s : State) : (deliver w s).dutyActive = s.dutyActive := rfl
@[simp] theorem deliver_period (w : StimulusWord) (s : State) : (deliver w s).period = s.period := rfl
@[simp] theorem deliver_mode (w : StimulusWord) (s : State) : (deliver w s).mode = s.mode := rfl
@[simp] theorem deliver_pol (w : StimulusWord) (s : State) : (deliver w s).pol = s.pol := rfl
@[simp] theorem deliver_deadtime (w : StimulusWord) (s : State) : (deliver w s).deadtime = s.deadtime := rfl
@[simp] theorem deliver_phase (w : StimulusWord) (s : State) : (deliver w s).phase = s.phase := rfl
@[simp] theorem deliver_pwmState (w : StimulusWord) (s : State) : (deliver w s).pwmState = s.pwmState := rfl
@[simp] theorem deliver_engState (w : StimulusWord) (s : State) : (deliver w s).engState = s.engState := rfl
@[simp] theorem deliver_init (w : StimulusWord) (s : State) : (deliver w s).init = s.init := rfl
@[simp] theorem deliver_channel (w : StimulusWord) (s : State) : (deliver w s).channel = s.channel := rfl
@[simp] theorem deliver_smpCh (w : StimulusWord) (s : State) : (deliver w s).smpCh = s.smpCh := rfl
@[simp] theorem deliver_smpArmed (w : StimulusWord) (s : State) : (deliver w s).smpArmed = s.smpArmed := rfl
@[simp] theorem deliver_rawSample (w : StimulusWord) (s : State) : (deliver w s).rawSample = s.rawSample := rfl
@[simp] theorem deliver_samplePending (w : StimulusWord) (s : State) : (deliver w s).samplePending = s.samplePending := rfl
@[simp] theorem deliver_missed (w : StimulusWord) (s : State) : (deliver w s).missed = s.missed := rfl
@[simp] theorem deliver_sat (w : StimulusWord) (s : State) : (deliver w s).sat = s.sat := rfl
@[simp] theorem deliver_satI (w : StimulusWord) (s : State) : (deliver w s).satI = s.satI := rfl
@[simp] theorem deliver_satD (w : StimulusWord) (s : State) : (deliver w s).satD = s.satD := rfl
@[simp] theorem deliver_satSticky (w : StimulusWord) (s : State) : (deliver w s).satSticky = s.satSticky := rfl
@[simp] theorem deliver_cfgErr (w : StimulusWord) (s : State) : (deliver w s).cfgErr = s.cfgErr := rfl
@[simp] theorem deliver_cmdRej (w : StimulusWord) (s : State) : (deliver w s).cmdRej = s.cmdRej := rfl
@[simp] theorem deliver_stimuli (w : StimulusWord) (s : State) : (deliver w s).stimuli = w :: s.stimuli := rfl
@[simp] theorem deliver_readData (w : StimulusWord) (s : State) : (deliver w s).readData = s.readData := rfl
@[simp] theorem deliver_trigger (w : StimulusWord) (s : State) : (deliver w s).trigger = s.trigger := rfl

end Sys2Proof.Machine
end

