-- ==== Sys2Proof/Laws/Ops.lean ====
section
/-! SUPPORT. What each shared operation can do, once: the carrier's derived quantities, the duty capture, the sample
capture and the update request. -/

namespace Sys2Proof.Machine

/-! ### The update request -/

theorem updateReq_iff (s : State) : updateReq s = true ↔ s.samplePending = true ∧ s.engState ≠ .uninitialized := by
  simp [updateReq]

/-! ### The carrier's derived quantities -/

theorem validConfig_iff (s : State) :
    validConfig Config.params s = true
      ↔ 1 ≤ s.period.toNat ∧ s.period.toNat ≤ 32767 ∧ 2 * s.deadtime.toNat ≤ s.period.toNat := by
  simp only [validConfig, Bool.and_eq_true, decide_eq_true_eq, and_assoc]
  exact Iff.rfl

/-- The carrier range by mode (41_waveform.md R120). -/
theorem carrierRange_cases (s : State) :
    (s.mode = .edge ∧ carrierRange s = s.period.toNat) ∨ (s.mode = .center ∧ carrierRange s = 2 * s.period.toNat) := by
  unfold carrierRange
  cases h : s.mode
  · exact .inl ⟨rfl, rfl⟩
  · exact .inr ⟨rfl, rfl⟩

theorem carrierRange_le (s : State) : carrierRange s ≤ 131070 := by
  have := s.period.isLt
  rcases carrierRange_cases s with ⟨_, h⟩ | ⟨_, h⟩ <;> omega

/-- A valid configuration has a range that fits a tick register (41_waveform.md R120). -/
theorem carrierRange_valid {s : State} (h : validConfig Config.params s = true) :
    1 ≤ carrierRange s ∧ carrierRange s ≤ 65534 := by
  rw [validConfig_iff] at h
  rcases carrierRange_cases s with ⟨_, e⟩ | ⟨_, e⟩ <;> omega

theorem rollsOver_iff (s : State) : rollsOver s = true ↔ carrierRange s ≤ s.phase.toNat + 1 := by
  simp [rollsOver]

/-- What the next phase is (41_waveform.md R128). -/
theorem nextPhase_cases (s : State) :
    (rollsOver s = true ∧ nextPhase s = 0) ∨ (rollsOver s = false ∧ nextPhase s = s.phase.toNat + 1) := by
  unfold nextPhase
  cases rollsOver s
  · exact .inr ⟨rfl, rfl⟩
  · exact .inl ⟨rfl, rfl⟩

theorem nextPhase_lt {s : State} (h : 1 ≤ carrierRange s) : nextPhase s < carrierRange s := by
  rcases nextPhase_cases s with ⟨_, e⟩ | ⟨r, e⟩
  · omega
  · have : ¬carrierRange s ≤ s.phase.toNat + 1 := fun hc => by simp [(rollsOver_iff s).2 hc] at r
    omega

/-- When the trigger fires, by mode (41_waveform.md R130). -/
theorem fires_cases (s : State) :
    (s.mode = .edge ∧ fires s = rollsOver s) ∨ (s.mode = .center ∧ fires s = decide (nextPhase s = s.period.toNat)) := by
  unfold fires
  cases h : s.mode
  · exact .inl ⟨rfl, rfl⟩
  · exact .inr ⟨rfl, rfl⟩

theorem phaseWord_toNat {v : Nat} (h : v < 65536) : (phaseWord v).toNat = v := by
  rw [phaseWord, if_pos h, BitVec.toNat_ofNat]
  omega

/-! ### The duty capture -/

theorem latchValue_le (s : State) : latchValue s ≤ carrierRange s := Nat.min_le_right _ _

theorem latchDuty_toNat (s : State) : (latchDuty s).dutyActive.toNat = latchValue s := by
  have h : latchValue s ≤ s.dutyShadow.toNat := Nat.min_le_left _ _
  have := s.dutyShadow.isLt
  rw [latchDuty_dutyActive, BitVec.toNat_ofNat]
  omega

theorem setDuty_toNat (n : Nat) (s : State) : (setDuty n s).dutyShadow.toNat = min n 65535 := by
  rw [setDuty_dutyShadow, BitVec.toNat_ofNat]
  omega

/-! ### The sample capture and the carrier's own part of a tick -/

/-- Everything a capture does (42_sampler.md R142). -/
theorem capture_eq (raw : RawWord) (s : State) :
    capture raw s = { s with
      missed := if s.samplePending then BitVec.ofNat 16 (min (s.missed.toNat + 1) 65535) else s.missed
      rawSample := raw
      samplePending := true } := by
  unfold capture
  cases s.samplePending <;> rfl

/-- Counting a missed sample: one more, and at 0xFFFF no more (42_sampler.md R142). -/
theorem countMissed_toNat (w : Word) : (BitVec.ofNat 16 (min (w.toNat + 1) 65535)).toNat = min (w.toNat + 1) 65535 := by
  rw [BitVec.toNat_ofNat]
  omega

end Sys2Proof.Machine
end

