-- ==== Sys2Proof/Laws/Exec.lean ====
section
/-! SUPPORT. What a stimulus can do, once: the cases of every meaning that has more than one, that every stimulus
completes, and what a step can be. -/

namespace Sys2Proof.Machine

/-! ### The meanings that choose -/

theorem execWrPeriod_cases (d : Word) (s : State) :
    (s.pwmState = .running ∧ execWrPeriod d s = .next (raise .commandRejected s))
      ∨ (s.pwmState ≠ .running ∧ execWrPeriod d s = .next { s with period := d }) := by
  by_cases h : s.pwmState = .running
  · exact .inl ⟨h, if_pos h⟩
  · exact .inr ⟨h, if_neg h⟩

theorem execWrPwmcfg_cases (d : Word) (s : State) :
    (s.pwmState = .running ∧ execWrPwmcfg d s = .next (raise .commandRejected s))
      ∨ (s.pwmState ≠ .running ∧ execWrPwmcfg d s = .next { s with mode := modeOf d, pol := polOf d }) := by
  by_cases h : s.pwmState = .running
  · exact .inl ⟨h, if_pos h⟩
  · exact .inr ⟨h, if_neg h⟩

theorem execWrDeadtime_cases (d : Word) (s : State) :
    (s.pwmState = .running ∧ execWrDeadtime d s = .next (raise .commandRejected s))
      ∨ (s.pwmState ≠ .running ∧ execWrDeadtime d s = .next { s with deadtime := d }) := by
  by_cases h : s.pwmState = .running
  · exact .inl ⟨h, if_pos h⟩
  · exact .inr ⟨h, if_neg h⟩

theorem execCmdConfigure_cases (s : State) :
    (s.pwmState = .running ∧ execCmdConfigure s = .next (raise .commandRejected s))
      ∨ (s.pwmState ≠ .running ∧ validConfig Config.params s = true
          ∧ execCmdConfigure s = .next { s with pwmState := .configuring })
      ∨ (s.pwmState ≠ .running ∧ validConfig Config.params s = false
          ∧ execCmdConfigure s = .next (raise .invalidConfig s)) := by
  unfold execCmdConfigure execCmdConfigureWith
  by_cases h : s.pwmState = .running
  · exact .inl ⟨h, if_pos h⟩
  · cases hv : validConfig Config.params s
    · exact .inr (.inr ⟨h, rfl, by simp [h]⟩)
    · exact .inr (.inl ⟨h, rfl, by simp [h]⟩)

theorem execCmdStart_cases (s : State) :
    (s.pwmState = .running ∧ execCmdStart s = .next s)
      ∨ (s.pwmState = .configuring ∧ validConfig Config.params s = true
          ∧ execCmdStart s = .next (latchDuty { s with pwmState := .running, phase := 0 }))
      ∨ (s.pwmState = .configuring ∧ validConfig Config.params s = false
          ∧ execCmdStart s = .next (raise .invalidConfig s))
      ∨ (s.pwmState = .idle ∧ execCmdStart s = .next (raise .commandRejected s)) := by
  unfold execCmdStart execCmdStartWith
  cases h : s.pwmState
  · exact .inr (.inr (.inr ⟨rfl, rfl⟩))
  · cases hv : validConfig Config.params s
    · exact .inr (.inr (.inl ⟨rfl, rfl, by simp⟩))
    · exact .inr (.inl ⟨rfl, rfl, by simp⟩)
  · exact .inl ⟨rfl, rfl⟩

theorem execCmdStop_cases (s : State) :
    (s.pwmState ≠ .idle ∧ execCmdStop s = .next { s with pwmState := .idle, phase := 0 })
      ∨ (s.pwmState = .idle ∧ execCmdStop s = .next s) := by
  unfold execCmdStop
  cases h : s.pwmState
  · exact .inr ⟨rfl, rfl⟩
  · exact .inl ⟨by simp, rfl⟩
  · exact .inl ⟨by simp, rfl⟩

theorem execWrOutMin_cases (d : Word) (s : State) :
    (s.engState = .uninitialized
        ∧ execWrOutMin d s = .next { s with outMin := d, init := { s.init with outMin := true } })
      ∨ (s.engState ≠ .uninitialized ∧ execWrOutMin d s = .next (raise .commandRejected s)) := by
  by_cases h : s.engState = .uninitialized
  · exact .inl ⟨h, if_pos h⟩
  · exact .inr ⟨h, if_neg h⟩

theorem execWrOutMax_cases (d : Word) (s : State) :
    (s.engState = .uninitialized
        ∧ execWrOutMax d s = .next { s with outMax := d, init := { s.init with outMax := true } })
      ∨ (s.engState ≠ .uninitialized ∧ execWrOutMax d s = .next (raise .commandRejected s)) := by
  by_cases h : s.engState = .uninitialized
  · exact .inl ⟨h, if_pos h⟩
  · exact .inr ⟨h, if_neg h⟩

theorem canArm_iff (s : State) :
    canArm s = true ↔ s.engState = .uninitialized ∧ s.init.all = true ∧ s.outMin.toInt ≤ s.outMax.toInt := by
  simp [canArm, and_assoc]

theorem execCmdArm_cases (s : State) :
    (canArm s = true ∧ execCmdArm s = .next { s with engState := .armed })
      ∨ (canArm s = false ∧ execCmdArm s = .next (raise .commandRejected s)) := by
  unfold execCmdArm
  cases canArm s
  · exact .inr ⟨rfl, rfl⟩
  · exact .inl ⟨rfl, rfl⟩

theorem execUpdate_cases (s : State) :
    (updateReq s = true ∧ execUpdate s = .next (applyUpdate Config.params s))
      ∨ (updateReq s = false ∧ execUpdate s = .next s) := by
  unfold execUpdate execUpdateWith
  cases updateReq s
  · exact .inr ⟨rfl, rfl⟩
  · exact .inl ⟨rfl, rfl⟩

/-- The state after an update that runs, written out (43_engine.md R158). -/
theorem applyUpdate_eq (p : Config.Params) (s : State) :
    applyUpdate p s = { s with
      integ := BitVec.ofInt 32 (updateInteg p s).1
      dutyOut := BitVec.ofInt 16 (updateDuty p s).1
      dutyShadow := BitVec.ofNat 16 (min (updateTicks p s).1 65535)
      samplePending := false
      engState := .running
      satI := updateSatI p s
      satD := updateSatD p s
      sat := updateSatI p s || updateSatD p s
      satSticky := s.satSticky || (updateSatI p s || updateSatD p s) } := rfl

/-- The carrier's own part of a tick, written out (41_waveform.md R128). -/
theorem advanceCarrier_eq (s : State) :
    advanceCarrier s = { s with
      phase := phaseWord (nextPhase s)
      trigger := fires s
      dutyActive := if rollsOver s then BitVec.ofNat 16 (latchValue s) else s.dutyActive } := by
  unfold advanceCarrier
  cases rollsOver s <;> rfl

/-- Everything a tick can do (41_waveform.md R128). -/
theorem execTick_cases (raw : RawWord) (s : State) :
    (s.pwmState ≠ .running ∧ execTick raw s = .next s)
      ∨ (s.pwmState = .running ∧ (fires s && s.smpArmed) = false ∧ execTick raw s = .next (advanceCarrier s))
      ∨ (s.pwmState = .running ∧ (fires s && s.smpArmed) = true
          ∧ execTick raw s = .next (capture raw (advanceCarrier s))) := by
  unfold execTick
  by_cases h : s.pwmState = .running
  · cases hf : fires s && s.smpArmed
    · exact .inr (.inl ⟨h, rfl, by simp [h]⟩)
    · exact .inr (.inr ⟨h, rfl, by simp [h]⟩)
  · exact .inl ⟨h, if_neg h⟩

/-- The state after a tick of a Running carrier, written out. -/
theorem execTick_running (raw : RawWord) (s : State) (h : s.pwmState = .running) :
    execTick raw s = .next { s with
      phase := phaseWord (nextPhase s)
      trigger := fires s
      dutyActive := if rollsOver s then BitVec.ofNat 16 (latchValue s) else s.dutyActive
      rawSample := if fires s && s.smpArmed then raw else s.rawSample
      missed := if (fires s && s.smpArmed) && s.samplePending
        then BitVec.ofNat 16 (min (s.missed.toNat + 1) 65535) else s.missed
      samplePending := s.samplePending || (fires s && s.smpArmed) } := by
  rcases execTick_cases raw s with ⟨hn, _⟩ | ⟨_, hc, e⟩ | ⟨_, hc, e⟩
  · exact absurd h hn
  · rw [e, advanceCarrier_eq, hc]
    simp
  · rw [e, capture_eq, advanceCarrier_eq, hc]
    simp

/-! ### Every stimulus -/

/-- Every stimulus completes: the block never traps or hangs (00_scope.md R12, 44_host_port.md R171). -/
theorem exec_answers (i : Instr) (s : State) : ∃ t, exec i s = .next t := by
  cases i with
  | wrPeriod d => rcases execWrPeriod_cases d s with ⟨_, e⟩ | ⟨_, e⟩ <;> exact ⟨_, e⟩
  | wrPwmcfg d => rcases execWrPwmcfg_cases d s with ⟨_, e⟩ | ⟨_, e⟩ <;> exact ⟨_, e⟩
  | wrDeadtime d => rcases execWrDeadtime_cases d s with ⟨_, e⟩ | ⟨_, e⟩ <;> exact ⟨_, e⟩
  | wrOutMin d => rcases execWrOutMin_cases d s with ⟨_, e⟩ | ⟨_, e⟩ <;> exact ⟨_, e⟩
  | wrOutMax d => rcases execWrOutMax_cases d s with ⟨_, e⟩ | ⟨_, e⟩ <;> exact ⟨_, e⟩
  | cmdConfigure => rcases execCmdConfigure_cases s with ⟨_, e⟩ | ⟨_, _, e⟩ | ⟨_, _, e⟩ <;> exact ⟨_, e⟩
  | cmdStart => rcases execCmdStart_cases s with ⟨_, e⟩ | ⟨_, _, e⟩ | ⟨_, _, e⟩ | ⟨_, e⟩ <;> exact ⟨_, e⟩
  | cmdStop => rcases execCmdStop_cases s with ⟨_, e⟩ | ⟨_, e⟩ <;> exact ⟨_, e⟩
  | cmdArm => rcases execCmdArm_cases s with ⟨_, e⟩ | ⟨_, e⟩ <;> exact ⟨_, e⟩
  | update => rcases execUpdate_cases s with ⟨_, e⟩ | ⟨_, e⟩ <;> exact ⟨_, e⟩
  | tick raw => rcases execTick_cases raw s with ⟨_, e⟩ | ⟨_, _, e⟩ | ⟨_, _, e⟩ <;> exact ⟨_, e⟩
  | rd _ | cmdNop | cmdSmpArm | cmdRsvd _ | wrStatus _ | wrSetpoint _ | wrKp _ | wrKi _ | wrChannel _
  | wrDutyOut _ | wrDutyActive _ | wrRawSample _ | wrMissed _ | wrRsvd _ | reset => exact ⟨_, rfl⟩

/-! ### What a stimulus can do -/

/-- What a stimulus can do: one constructor for each way in which a meaning answers. -/
inductive Effect : Instr → State → State → Prop
  | rd (a : HostReg) (s : State) : Effect (.rd a) s { s with readData := some (readHost a s) }
  | cmdNop (s : State) : Effect .cmdNop s s
  | cmdRsvd (d : Word) (s : State) : Effect (.cmdRsvd d) s (raise .commandRejected s)
  | wrStatus (d : Word) (s : State) : Effect (.wrStatus d) s (clearSticky d s)
  | wrDutyOut (d : Word) (s : State) : Effect (.wrDutyOut d) s (raise .commandRejected s)
  | wrDutyActive (d : Word) (s : State) : Effect (.wrDutyActive d) s (raise .commandRejected s)
  | wrRawSample (d : Word) (s : State) : Effect (.wrRawSample d) s (raise .commandRejected s)
  | wrMissed (d : Word) (s : State) : Effect (.wrMissed d) s (raise .commandRejected s)
  | wrRsvd (d : Word) (s : State) : Effect (.wrRsvd d) s (raise .commandRejected s)
  | wrPeriod (d : Word) (s : State) (h : s.pwmState ≠ .running) : Effect (.wrPeriod d) s { s with period := d }
  | wrPeriodRejected (d : Word) (s : State) (h : s.pwmState = .running) :
      Effect (.wrPeriod d) s (raise .commandRejected s)
  | wrPwmcfg (d : Word) (s : State) (h : s.pwmState ≠ .running) :
      Effect (.wrPwmcfg d) s { s with mode := modeOf d, pol := polOf d }
  | wrPwmcfgRejected (d : Word) (s : State) (h : s.pwmState = .running) :
      Effect (.wrPwmcfg d) s (raise .commandRejected s)
  | wrDeadtime (d : Word) (s : State) (h : s.pwmState ≠ .running) :
      Effect (.wrDeadtime d) s { s with deadtime := d }
  | wrDeadtimeRejected (d : Word) (s : State) (h : s.pwmState = .running) :
      Effect (.wrDeadtime d) s (raise .commandRejected s)
  | configure (s : State) (h : s.pwmState ≠ .running) (hv : validConfig Config.params s = true) :
      Effect .cmdConfigure s { s with pwmState := .configuring }
  | configureInvalid (s : State) (h : s.pwmState ≠ .running) (hv : validConfig Config.params s = false) :
      Effect .cmdConfigure s (raise .invalidConfig s)
  | configureRejected (s : State) (h : s.pwmState = .running) :
      Effect .cmdConfigure s (raise .commandRejected s)
  | start (s : State) (h : s.pwmState = .configuring) (hv : validConfig Config.params s = true) :
      Effect .cmdStart s (latchDuty { s with pwmState := .running, phase := 0 })
  | startInvalid (s : State) (h : s.pwmState = .configuring) (hv : validConfig Config.params s = false) :
      Effect .cmdStart s (raise .invalidConfig s)
  | startRunning (s : State) (h : s.pwmState = .running) : Effect .cmdStart s s
  | startRejected (s : State) (h : s.pwmState = .idle) : Effect .cmdStart s (raise .commandRejected s)
  | stop (s : State) (h : s.pwmState ≠ .idle) : Effect .cmdStop s { s with pwmState := .idle, phase := 0 }
  | stopIdle (s : State) (h : s.pwmState = .idle) : Effect .cmdStop s s
  | tickIdle (raw : RawWord) (s : State) (h : s.pwmState ≠ .running) : Effect (.tick raw) s s
  | tick (raw : RawWord) (s : State) (h : s.pwmState = .running) (hc : (fires s && s.smpArmed) = false) :
      Effect (.tick raw) s (advanceCarrier s)
  | tickCapture (raw : RawWord) (s : State) (h : s.pwmState = .running) (hc : (fires s && s.smpArmed) = true) :
      Effect (.tick raw) s (capture raw (advanceCarrier s))
  | wrChannel (d : Word) (s : State) : Effect (.wrChannel d) s { s with channel := channelOf d }
  | smpArm (s : State) : Effect .cmdSmpArm s { s with smpCh := s.channel, smpArmed := true }
  | wrSetpoint (d : Word) (s : State) : Effect (.wrSetpoint d) s { s with setpoint := d }
  | wrKp (d : Word) (s : State) : Effect (.wrKp d) s { s with kp := d, init := { s.init with kp := true } }
  | wrKi (d : Word) (s : State) : Effect (.wrKi d) s { s with ki := d, init := { s.init with ki := true } }
  | wrOutMin (d : Word) (s : State) (h : s.engState = .uninitialized) :
      Effect (.wrOutMin d) s { s with outMin := d, init := { s.init with outMin := true } }
  | wrOutMinRejected (d : Word) (s : State) (h : s.engState ≠ .uninitialized) :
      Effect (.wrOutMin d) s (raise .commandRejected s)
  | wrOutMax (d : Word) (s : State) (h : s.engState = .uninitialized) :
      Effect (.wrOutMax d) s { s with outMax := d, init := { s.init with outMax := true } }
  | wrOutMaxRejected (d : Word) (s : State) (h : s.engState ≠ .uninitialized) :
      Effect (.wrOutMax d) s (raise .commandRejected s)
  | arm (s : State) (h : canArm s = true) : Effect .cmdArm s { s with engState := .armed }
  | armRejected (s : State) (h : canArm s = false) : Effect .cmdArm s (raise .commandRejected s)
  | update (s : State) (h : updateReq s = true) : Effect .update s (applyUpdate Config.params s)
  | updateIdle (s : State) (h : updateReq s = false) : Effect .update s s
  | reset (s : State) : Effect .reset s { State.reset with stimuli := s.stimuli }

/-- Every next state is one that `Effect` gives. -/
theorem effect_of_exec {i : Instr} {s t : State} (h : exec i s = .next t) : Effect i s t := by
  cases i with
  | wrPeriod d =>
    rcases execWrPeriod_cases d s with ⟨a, e⟩ | ⟨a, e⟩ <;> cases h.symm.trans e
    · exact .wrPeriodRejected d s a
    · exact .wrPeriod d s a
  | wrPwmcfg d =>
    rcases execWrPwmcfg_cases d s with ⟨a, e⟩ | ⟨a, e⟩ <;> cases h.symm.trans e
    · exact .wrPwmcfgRejected d s a
    · exact .wrPwmcfg d s a
  | wrDeadtime d =>
    rcases execWrDeadtime_cases d s with ⟨a, e⟩ | ⟨a, e⟩ <;> cases h.symm.trans e
    · exact .wrDeadtimeRejected d s a
    · exact .wrDeadtime d s a
  | wrOutMin d =>
    rcases execWrOutMin_cases d s with ⟨a, e⟩ | ⟨a, e⟩ <;> cases h.symm.trans e
    · exact .wrOutMin d s a
    · exact .wrOutMinRejected d s a
  | wrOutMax d =>
    rcases execWrOutMax_cases d s with ⟨a, e⟩ | ⟨a, e⟩ <;> cases h.symm.trans e
    · exact .wrOutMax d s a
    · exact .wrOutMaxRejected d s a
  | cmdConfigure =>
    rcases execCmdConfigure_cases s with ⟨a, e⟩ | ⟨a, b, e⟩ | ⟨a, b, e⟩ <;> cases h.symm.trans e
    · exact .configureRejected s a
    · exact .configure s a b
    · exact .configureInvalid s a b
  | cmdStart =>
    rcases execCmdStart_cases s with ⟨a, e⟩ | ⟨a, b, e⟩ | ⟨a, b, e⟩ | ⟨a, e⟩ <;> cases h.symm.trans e
    · exact .startRunning s a
    · exact .start s a b
    · exact .startInvalid s a b
    · exact .startRejected s a
  | cmdStop =>
    rcases execCmdStop_cases s with ⟨a, e⟩ | ⟨a, e⟩ <;> cases h.symm.trans e
    · exact .stop s a
    · exact .stopIdle s a
  | cmdArm =>
    rcases execCmdArm_cases s with ⟨a, e⟩ | ⟨a, e⟩ <;> cases h.symm.trans e
    · exact .arm s a
    · exact .armRejected s a
  | update =>
    rcases execUpdate_cases s with ⟨a, e⟩ | ⟨a, e⟩ <;> cases h.symm.trans e
    · exact .update s a
    · exact .updateIdle s a
  | tick raw =>
    rcases execTick_cases raw s with ⟨a, e⟩ | ⟨a, b, e⟩ | ⟨a, b, e⟩ <;> cases h.symm.trans e
    · exact .tickIdle raw s a
    · exact .tick raw s a b
    · exact .tickCapture raw s a b
  | _ => cases h; constructor

/-! ### A step -/

/-- Everything a step that answers a next state can be. -/
theorem step_cases {s t : State} (h : step s = .next t) :
    (s.stimuli = [] ∧ t = lowerOutputs s)
      ∨ ∃ w rest i, s.stimuli = w :: rest ∧ decode w = .ok i ∧ exec i (accept rest s) = .next t := by
  unfold step at h
  split at h
  · next hq => exact .inl ⟨hq, by injection h with h; exact h.symm⟩
  · next w rest hq =>
    split at h
    · next i hd => exact .inr ⟨w, rest, i, hq, hd, h⟩
    · cases h

end Sys2Proof.Machine
end

