-- ==== Sys2Proof/Laws/PerInstr.lean ====
section
/-! SUPPORT. The family `OpcodeRow`, one lemma per constructor of `Instr`: the word of a stimulus has the fixed bits of its
row of spec/opcode_table.json (the row's `mask` and `match`). -/

namespace Sys2Proof.Laws.OpcodeRow

/-- The `mask` and `match` columns of the stimulus's row of spec/opcode_table.json. -/
def row : Instr → StimulusWord × StimulusWord
  | .rd _ => (0xF00000, 0x000000)
  | .cmdNop => (0xFFFFFF, 0x400000)
  | .cmdConfigure => (0xFFFFFF, 0x400001)
  | .cmdStart => (0xFFFFFF, 0x400002)
  | .cmdStop => (0xFFFFFF, 0x400003)
  | .cmdArm => (0xFFFFFF, 0x400004)
  | .cmdSmpArm => (0xFFFFFF, 0x400005)
  | .cmdRsvd _ => (0xFF0000, 0x400000)
  | .wrStatus _ => (0xFF0000, 0x410000)
  | .wrSetpoint _ => (0xFF0000, 0x420000)
  | .wrKp _ => (0xFF0000, 0x430000)
  | .wrKi _ => (0xFF0000, 0x440000)
  | .wrOutMin _ => (0xFF0000, 0x450000)
  | .wrOutMax _ => (0xFF0000, 0x460000)
  | .wrPeriod _ => (0xFF0000, 0x470000)
  | .wrPwmcfg _ => (0xFF0000, 0x480000)
  | .wrDeadtime _ => (0xFF0000, 0x490000)
  | .wrChannel _ => (0xFF0000, 0x4A0000)
  | .wrDutyOut _ => (0xFF0000, 0x4B0000)
  | .wrDutyActive _ => (0xFF0000, 0x4C0000)
  | .wrRawSample _ => (0xFF0000, 0x4D0000)
  | .wrMissed _ => (0xFF0000, 0x4E0000)
  | .wrRsvd _ => (0xFF0000, 0x4F0000)
  | .tick _ => (0xFFFC00, 0x800000)
  | .update => (0xFFFFFF, 0x900000)
  | .reset => (0xFFFFFF, 0xA00000)

/-- The word of the stimulus has its row's fixed bits. -/
def Statement (i : Instr) : Prop := encode i &&& (row i).1 = (row i).2

/-- The address half of a word of format H does not depend on its data. -/
theorem hostWord_masked (k : BitVec 2) (a : HostReg) (d : Word) :
    hostWord k a d &&& 0xFF0000 = hostWord k a 0 := by
  have h : hostWord k a d = hostWord k a 0 ||| d.setWidth 24 := by
    apply BitVec.eq_of_toNat_eq
    have := d.isLt
    rw [BitVec.toNat_or, hostWord_toNat, hostWord_toNat, BitVec.toNat_setWidth, Nat.mod_eq_of_lt (by omega)]
    change _ = (k.toNat * 2 ^ 22 + a.addr.toNat * 2 ^ 16 + (0 : Nat)) ||| _
    rw [show k.toNat * 2 ^ 22 + a.addr.toNat * 2 ^ 16 + 0 = (k.toNat * 2 ^ 6 + a.addr.toNat) <<< 16 by
      rw [Nat.shiftLeft_eq]; omega, ← Nat.shiftLeft_add_eq_or_of_lt d.isLt, Nat.shiftLeft_eq]
    omega
  have h0 : ∀ (k : BitVec 2) (a : HostAddr), ((k ++ 0#2 ++ a ++ 0#16 : StimulusWord) &&& 0xFF0000) = k ++ 0#2 ++ a ++ 0#16 := by
    decide
  have hd : (d.setWidth 24 : StimulusWord) &&& 0xFF0000 = 0 := by
    apply BitVec.eq_of_getLsbD_eq
    intro j hj
    rw [BitVec.getLsbD_and, BitVec.getLsbD_setWidth]
    by_cases hlt : j < 16
    · interval_cases j <;> simp
    · simp [BitVec.getLsbD_of_ge d j (by omega)]
  rw [h, BitVec.and_comm, BitVec.and_or_distrib_left, BitVec.and_comm _ (d.setWidth 24), hd, BitVec.and_comm]
  rw [show hostWord k a 0 &&& 0xFF0000 = hostWord k a 0 from h0 k a.addr]
  simp

theorem rd (a : HostReg) : Statement (.rd a) := by cases a <;> rfl
theorem cmdNop : Statement .cmdNop := rfl
theorem cmdConfigure : Statement .cmdConfigure := rfl
theorem cmdStart : Statement .cmdStart := rfl
theorem cmdStop : Statement .cmdStop := rfl
theorem cmdArm : Statement .cmdArm := rfl
theorem cmdSmpArm : Statement .cmdSmpArm := rfl
theorem cmdRsvd (code : Word) : Statement (.cmdRsvd code) := hostWord_masked 1 .cmd code
theorem wrStatus (d : Word) : Statement (.wrStatus d) := hostWord_masked 1 .status d
theorem wrSetpoint (d : Word) : Statement (.wrSetpoint d) := hostWord_masked 1 .setpoint d
theorem wrKp (d : Word) : Statement (.wrKp d) := hostWord_masked 1 .kp d
theorem wrKi (d : Word) : Statement (.wrKi d) := hostWord_masked 1 .ki d
theorem wrOutMin (d : Word) : Statement (.wrOutMin d) := hostWord_masked 1 .outMin d
theorem wrOutMax (d : Word) : Statement (.wrOutMax d) := hostWord_masked 1 .outMax d
theorem wrPeriod (d : Word) : Statement (.wrPeriod d) := hostWord_masked 1 .period d
theorem wrPwmcfg (d : Word) : Statement (.wrPwmcfg d) := hostWord_masked 1 .pwmcfg d
theorem wrDeadtime (d : Word) : Statement (.wrDeadtime d) := hostWord_masked 1 .deadtime d
theorem wrChannel (d : Word) : Statement (.wrChannel d) := hostWord_masked 1 .channel d
theorem wrDutyOut (d : Word) : Statement (.wrDutyOut d) := hostWord_masked 1 .dutyOut d
theorem wrDutyActive (d : Word) : Statement (.wrDutyActive d) := hostWord_masked 1 .dutyActive d
theorem wrRawSample (d : Word) : Statement (.wrRawSample d) := hostWord_masked 1 .rawSample d
theorem wrMissed (d : Word) : Statement (.wrMissed d) := hostWord_masked 1 .missed d
theorem wrRsvd (d : Word) : Statement (.wrRsvd d) := hostWord_masked 1 .rsvd d
theorem tick : ∀ raw : RawWord, Statement (.tick raw) := by
  unfold Statement
  decide
theorem update : Statement .update := rfl
theorem reset : Statement .reset := rfl

end Sys2Proof.Laws.OpcodeRow
end

