-- ==== Sys2Proof/Laws/Safety.lean ====
section
/-! SUPPORT. What the terms of Safety.lean say of a sequence one stimulus longer. -/

namespace Sys2Proof.Machine

/-- A sequence that answers has run its first stimulus and then the rest. -/
theorem execSeq_cons {i : Instr} {is : List Instr} {s t : State} (h : execSeq (i :: is) s = .next t) :
    ∃ u, exec i (lowerOutputs s) = .next u ∧ execSeq is u = .next t := by
  obtain ⟨u, hu⟩ := exec_answers i (lowerOutputs s)
  rw [execSeq, hu] at h
  exact ⟨u, hu, h⟩

/-- What `servedBy` says of a stimulus and of the sequence behind it. -/
theorem servedBy_cons {deadline : Instr → State → Bool} {owed : Nat} {i : Instr} {is : List Instr} {s u : State}
    (h : servedBy deadline owed (i :: is) s) (hu : exec i (lowerOutputs s) = .next u) :
    (deadline i s = true → owed = 0) ∧ servedBy deadline (owedAfter owed i s) is u := by
  rw [servedBy, hu] at h
  exact h

/-- A count over a sequence is the count over its first stimulus and over the rest. -/
theorem countWhere_cons {i : Instr} {s u : State} (kind : Instr → State → Bool) (is : List Instr)
    (hu : exec i (lowerOutputs s) = .next u) : countWhere kind (i :: is) s = (kind i s).toNat + countWhere kind is u := by
  rw [countWhere, hu]

theorem tickCount_cons (i : Instr) (is : List Instr) : tickCount (i :: is) = (isTick i).toNat + tickCount is := by
  cases h : isTick i <;> simp [tickCount, h, Nat.add_comm]

/-- A sample is pending after a stimulus that captured it, and after one before which it waited and that did not serve it. -/
theorem samplePending_after {i : Instr} {s t : State} (h : exec i s = .next t) (hr : i ≠ .reset) :
    t.samplePending = (capturingTick i s || (s.samplePending && !servingUpdate i s)) := by
  have h := effect_of_exec h
  cases h <;> simp_all [capturingTick, firingTick, servingUpdate, isTick, applyUpdate_eq, advanceCarrier_eq, capture_eq,
    clearSticky]

end Sys2Proof.Machine
end

