-- ==== Sys2Proof/Tests/Slice0.lean ====
section
/-! SUPPORT. Tests: the check of well-formedness, the words of 30_encoding.md written out, single steps with the results
of 95_test_vectors.md, and for every obligation with hypotheses a state and operands that meet them. -/

namespace Sys2Proof.Tests

open Sys2Proof.Machine

/-! ### Helpers -/

/-- The state after a stimulus. -/
def after (i : Instr) (s : State) : Option State :=
  match exec i s with
  | .next t => some t
  | .fault _ => none
  | .refused _ => none

/-- The engine armed as in 95_test_vectors.md V40, before the carrier is configured. -/
def armedEngine : State :=
  { State.reset with
    setpoint := 0x4000, kp := 0x4000, ki := 0x0CCD, outMax := 0x7FFF, engState := .armed
    init := { kp := true, ki := true, outMin := true, outMax := true } }

/-- The same with the sampler armed on channel 2 and a center-aligned configuration of 1000 ticks, `Idle`. -/
def stopped : State :=
  { armedEngine with channel := 2, smpCh := 2, smpArmed := true, period := 1000, mode := .center, deadtime := 20 }

/-- The same, `Configuring`. -/
def configured : State := { stopped with pwmState := .configuring }

/-- The same, Running at phase 0. -/
def running : State := { stopped with pwmState := .running }

/-- The same, one tick before the trigger. -/
def beforeTrigger : State := { running with phase := 999 }

/-- The same, right after the capture of a sample of 0. -/
def sampled : State := { running with phase := 1000, samplePending := true }

/-- The state of V40 after cycle 3 with the sample of V42 captured. -/
def settled : State := { sampled with engState := .running, integ := 0x0999C000, rawSample := 512 }

/-- One tick before the rollover, after the update of V40 cycle 1 (V30). -/
def beforeRollover : State := { running with phase := 1999, dutyShadow := 600, engState := .running }

/-- The shortest carrier: every tick is a rollover and fires the trigger. -/
def shortest : State := { running with period := 1, mode := .edge, deadtime := 0 }

/-- The shortest center-aligned carrier, with `R` = 2. -/
def shortestCenter : State := { running with period := 1, deadtime := 0 }

/-- A state in which the host has been refused a command and a configuration, and a saturation was recorded. -/
def flagged : State := { State.reset with satSticky := true, cfgErr := true, cmdRej := true }

/-! ### Well-formedness -/

theorem test_wellFormed_refuses_command_codes :
    (Instr.cmdRsvd 0).wellFormed = false ∧ (Instr.cmdRsvd 5).wellFormed = false := by decide

theorem test_wellFormed_accepts : (Instr.cmdRsvd 6).wellFormed = true ∧ (Instr.cmdRsvd 0xFFFF).wellFormed = true
    ∧ (Instr.tick 1023).wellFormed = true := by decide

/-! ### Words written out from the patterns of R83 to R86 -/

theorem test_decode_reads :
    decode 0b000000010000000000000000 = .ok (.rd .status) ∧ decode 0b000011111010101111001101 = .ok (.rd .rsvd)
    ∧ decode 0x01ABCD = .ok (.rd .status) := ⟨rfl, rfl, rfl⟩

theorem test_decode_commands :
    decode 0b010000000000000000000000 = .ok .cmdNop ∧ decode 0b010000000000000000000001 = .ok .cmdConfigure
    ∧ decode 0b010000000000000000000010 = .ok .cmdStart ∧ decode 0b010000000000000000000011 = .ok .cmdStop
    ∧ decode 0b010000000000000000000100 = .ok .cmdArm ∧ decode 0b010000000000000000000101 = .ok .cmdSmpArm
    ∧ decode 0b010000000000000000000110 = .ok (.cmdRsvd 6) ∧ decode 0b010000001111111111111111 = .ok (.cmdRsvd 0xFFFF)
    ∧ decode 0b010000000000000100000001 = .ok (.cmdRsvd 0x0101) :=
  ⟨rfl, rfl, rfl, rfl, rfl, rfl, rfl, rfl, rfl⟩

theorem test_decode_engine_writes :
    decode 0b010000100100000000000001 = .ok (.wrSetpoint 0x4001) ∧ decode 0b010000110100000000000001 = .ok (.wrKp 0x4001)
    ∧ decode 0b010001000000110011001101 = .ok (.wrKi 0x0CCD) ∧ decode 0b010001011110000000000010 = .ok (.wrOutMin 0xE002)
    ∧ decode 0b010001100111111111111111 = .ok (.wrOutMax 0x7FFF) := ⟨rfl, rfl, rfl, rfl, rfl⟩

theorem test_decode_carrier_writes :
    decode 0b010001110000001111101000 = .ok (.wrPeriod 1000) ∧ decode 0b010010001111111111111111 = .ok (.wrPwmcfg 0xFFFF)
    ∧ decode 0b010010010000000000010100 = .ok (.wrDeadtime 20) ∧ decode 0b010010101111111111110011 = .ok (.wrChannel 0xFFF3) :=
  ⟨rfl, rfl, rfl, rfl⟩

theorem test_decode_port_writes :
    decode 0b010000010000111000000000 = .ok (.wrStatus 0x0E00) ∧ decode 0b010010110000000000000000 = .ok (.wrDutyOut 0)
    ∧ decode 0b010011001000000000000001 = .ok (.wrDutyActive 0x8001)
    ∧ decode 0b010011010000000000000001 = .ok (.wrRawSample 1) ∧ decode 0b010011100000000000000010 = .ok (.wrMissed 2)
    ∧ decode 0b010011110001001000110100 = .ok (.wrRsvd 0x1234) := ⟨rfl, rfl, rfl, rfl, rfl, rfl⟩

theorem test_decode_events :
    decode 0b100000000000000000000000 = .ok (.tick 0) ∧ decode 0b100000000000001111111111 = .ok (.tick 1023)
    ∧ decode 0b100100000000000000000000 = .ok .update ∧ decode 0b101000000000000000000000 = .ok .reset :=
  ⟨rfl, rfl, rfl, rfl⟩

/-- 95_test_vectors.md section 2.2, the words it lists as `INVALID`. -/
theorem test_decode_invalid :
    decode 0x100000 = .error .hostPadding ∧ decode 0x300000 = .error .hostPadding ∧ decode 0x500000 = .error .hostPadding
    ∧ decode 0x7FFFFF = .error .hostPadding ∧ decode 0x800400 = .error .eventPadding
    ∧ decode 0x810000 = .error .eventPadding ∧ decode 0x900001 = .error .rawOnUpdate
    ∧ decode 0xA003FF = .error .rawOnReset ∧ decode 0xB00000 = .error .reservedEvent
    ∧ decode 0xC00000 = .error .reservedKind ∧ decode 0xFFFFFF = .error .reservedKind :=
  ⟨rfl, rfl, rfl, rfl, rfl, rfl, rfl, rfl, rfl, rfl, rfl⟩

/-- `DecoderMapsTheWordSpace` at the first and the last word of each of its ranges, in its order. -/
theorem test_decode_range_ends :
    decode 0x000000 = .ok (.rd .cmd) ∧ decode 0x0FFFFF = .ok (.rd .rsvd)
    ∧ decode 0x100000 = .error .hostPadding ∧ decode 0x3FFFFF = .error .hostPadding
    ∧ decode 0x400000 = .ok .cmdNop ∧ decode 0x4FFFFF = .ok (.wrRsvd 0xFFFF)
    ∧ decode 0x500000 = .error .hostPadding ∧ decode 0x7FFFFF = .error .hostPadding
    ∧ decode 0x800000 = .ok (.tick 0) ∧ decode 0x8003FF = .ok (.tick 1023)
    ∧ decode 0x800400 = .error .eventPadding ∧ decode 0x8FFFFF = .error .eventPadding
    ∧ decode 0x900000 = .ok .update ∧ decode 0x900001 = .error .rawOnUpdate ∧ decode 0x9FFFFF = .error .eventPadding
    ∧ decode 0xA00000 = .ok .reset ∧ decode 0xA00001 = .error .rawOnReset ∧ decode 0xFFFFFF = .error .reservedKind :=
  ⟨rfl, rfl, rfl, rfl, rfl, rfl, rfl, rfl, rfl, rfl, rfl, rfl, rfl, rfl, rfl, rfl, rfl, rfl⟩

theorem test_encode_host :
    encode (.rd .missed) = 0x0E0000 ∧ encode .cmdSmpArm = 0x400005 ∧ encode (.cmdRsvd 0x0101) = 0x400101
    ∧ encode (.wrStatus 0x0E00) = 0x410E00 ∧ encode (.wrKp 0x4000) = 0x434000 ∧ encode (.wrRsvd 0x1234) = 0x4F1234 := by
  decide

theorem test_encode_events :
    encode (.tick 256) = 0x800100 ∧ encode .update = 0x900000 ∧ encode .reset = 0xA00000 := by decide

theorem test_decodeTableWord :
    decodeTableWord 24 0x434000 = some (.wrKp 0x4000) ∧ decodeTableWord 24 0xC00000 = none
    ∧ decodeTableWord 24 0x8003FF = some (.tick 1023) := by decide

theorem test_withFetchWord_runs :
    step (State.reset.withFetchWord 24 0x434000)
      = .next { State.reset with kp := 0x4000, init := { State.reset.init with kp := true } } := rfl

theorem test_withFetchWord_refuses :
    step (State.reset.withFetchWord 24 0xC00000) = .refused (.invalidStimulus .reservedKind) := rfl

/-! ### The arithmetic (95_test_vectors.md section 2.1 and the examples of 40_fpuq.md) -/

/-- V10 and R101. -/
theorem test_sat_clamp :
    sat 32768 16 = (32767, true) ∧ sat (-32768) 16 = (-32768, false) ∧ sat (-32769) 16 = (-32768, true)
    ∧ sat 2147483648 32 = (2147483647, true) ∧ clamp 1073807360 0 1073709056 = (1073709056, true) := by decide

/-- R102: ties go up. -/
theorem test_rndShr :
    rndShr 16384 15 = 1 ∧ rndShr 16383 15 = 0 ∧ rndShr (-16384) 15 = 0 ∧ rndShr (-16385) 15 = -1
    ∧ rndShr (-49152) 15 = -1 ∧ rndShr 49152 15 = 2 ∧ rndShr 53690368 15 = 1639 := by decide

/-- R103. -/
theorem test_mul :
    mul (-32768) (-32768) = (32767, true) ∧ mul (-32768) 32767 = (-32767, false) ∧ mul 32767 32767 = (32766, false)
    ∧ mul 1 16384 = (1, false) ∧ mul (-1) 16384 = (0, false) ∧ mul 0x4000 0x4000 = (0x2000, false) := by decide

/-- R104 and R105. -/
theorem test_mac_subSat :
    mac (-32768) (-32768) 0x40000000 = (0x7FFFFFFF, true) ∧ mac (-32768) (-32768) 0x3FFFFFFF = (0x7FFFFFFF, false)
    ∧ mac (-32768) 32767 (-2147483548) = (-2147483648, true) ∧ mac 0x4000 0x0CCD 0 = (0x03334000, false)
    ∧ subSat 32767 (-32768) = (32767, true) ∧ subSat (-32768) 32767 = (-32768, true) := by decide

/-- R106 to R109. -/
theorem test_conversions :
    toFixed Config.params 1023 = 0x7FE0 ∧ toFixed Config.params 512 = 0x4000 ∧ toAcc 0x7FFF = 1073709056
    ∧ fromAcc 0x03334000 = 1639 ∧ toTicks 0x2667 2000 = (600, false) ∧ toTicks (-1) 2000 = (0, true)
    ∧ toTicks 32767 65534 = (65532, false) := by decide

/-! ### Single steps -/

theorem test_rd_status : (after (.rd .status) armedEngine).map (·.readData) = some (some 0xF001) := by decide

/-- V52: `WR PWMCFG, 0xFFFF` reads back as 0x0003. -/
theorem test_wrPwmcfg_reads_back : (after (.wrPwmcfg 0xFFFF) stopped).map (readHost .pwmcfg) = some 0x0003 := by decide

theorem test_cmdNop : after .cmdNop flagged = some flagged := by decide

/-- V52. -/
theorem test_cmdRsvd : after (.cmdRsvd 6) running = some { running with cmdRej := true } := by decide

/-- V51. -/
theorem test_wrStatus_mask :
    (after (.wrStatus 0x0400) flagged).map statusWord = some 0x0A00
    ∧ (after (.wrStatus 0xF9FF) { flagged with cfgErr := false }).map statusWord = some 0x0200 := by decide

/-- V52. -/
theorem test_wrMissed :
    after (.wrMissed 0) { State.reset with missed := 7 } = some { State.reset with missed := 7, cmdRej := true } := by
  decide

theorem test_read_only_writes :
    after (.wrDutyOut 1) running = some { running with cmdRej := true }
    ∧ after (.wrDutyActive 1) running = some { running with cmdRej := true }
    ∧ after (.wrRawSample 1) running = some { running with cmdRej := true }
    ∧ after (.wrRsvd 0x1234) running = some { running with cmdRej := true } := by decide

/-- V26. -/
theorem test_wrPeriod :
    after (.wrPeriod 0xFFFF) configured = some { configured with period := 0xFFFF }
    ∧ after (.wrPeriod 20) running = some { running with cmdRej := true } := by decide

/-- V26. -/
theorem test_wrDeadtime :
    after (.wrDeadtime 500) stopped = some { stopped with deadtime := 500 }
    ∧ after (.wrDeadtime 20) running = some { running with cmdRej := true } := by decide

/-- V25. -/
theorem test_validConfig :
    validConfig Config.params { stopped with deadtime := 500 } = true
    ∧ validConfig Config.params { stopped with deadtime := 501 } = false
    ∧ validConfig Config.params { stopped with period := 32768, deadtime := 0 } = false
    ∧ validConfig Config.params { stopped with period := 1, deadtime := 0 } = true := by decide

/-- V27. -/
theorem test_cmdConfigure :
    after .cmdConfigure State.reset = some { State.reset with cfgErr := true }
    ∧ after .cmdConfigure stopped = some configured
    ∧ after .cmdConfigure { configured with period := 0 } = some { stopped with period := 0, cfgErr := true }
    ∧ after .cmdConfigure running = some { running with cmdRej := true } := by decide

/-- V27. -/
theorem test_cmdStart :
    after .cmdStart { configured with dutyShadow := 3000 }
      = some { running with dutyShadow := 3000, dutyActive := 2000 }
    ∧ after .cmdStart stopped = some { stopped with cmdRej := true }
    ∧ after .cmdStart beforeTrigger = some beforeTrigger := by decide

/-- V27. -/
theorem test_cmdStop :
    after .cmdStop beforeTrigger = some stopped ∧ after .cmdStop configured = some stopped
    ∧ after .cmdStop stopped = some stopped := by decide

/-- 41_waveform.md R128, its example: the trigger fires and the sample is captured. -/
theorem test_tick_captures :
    after (.tick 512) beforeTrigger
      = some { running with phase := 1000, rawSample := 512, samplePending := true, trigger := true } := by decide

/-- V30: the rollover latches the duty and does not fire in center-aligned mode. -/
theorem test_tick_latches :
    after (.tick 0) beforeRollover = some { beforeRollover with phase := 0, dutyActive := 600 } := by decide

/-- V34: a missed sample, and the counter at its limit. -/
theorem test_capture_missed :
    (capture 200 { sampled with rawSample := 100 }).missed = 1
    ∧ (capture 200 { sampled with missed := 65535 }).missed = 65535 := by decide

/-- V33. -/
theorem test_wrChannel : after (.wrChannel 0xFFF3) running = some { running with channel := 3 } := by decide

/-- V33. -/
theorem test_cmdSmpArm :
    after .cmdSmpArm { State.reset with channel := 3 } = some { State.reset with channel := 3, smpCh := 3, smpArmed := true } := by
  decide

theorem test_wrSetpoint : after (.wrSetpoint 0x8000) running = some { running with setpoint := 0x8000 } := by decide

theorem test_wrGains :
    (after (.wrKp 0x4000) State.reset).map statusWord = some 0x1000
    ∧ (after (.wrKi 0x0CCD) State.reset).map statusWord = some 0x2000 := by decide

theorem test_wrBounds :
    (after (.wrOutMin 0x8000) State.reset).map statusWord = some 0x4000
    ∧ (after (.wrOutMax 0x7FFF) State.reset).map statusWord = some 0x8000
    ∧ after (.wrOutMin 1) armedEngine = some { armedEngine with cmdRej := true }
    ∧ after (.wrOutMax 1) armedEngine = some { armedEngine with cmdRej := true } := by decide

/-- V48: the bounds are compared as signed numbers. -/
theorem test_cmdArm :
    after .cmdArm { armedEngine with engState := .uninitialized, outMin := 0x8000 } = some { armedEngine with outMin := 0x8000 }
    ∧ (after .cmdArm { armedEngine with engState := .uninitialized, outMin := 0x7FFF, outMax := 0x8000 }).map statusWord
      = some 0xF800
    ∧ (after .cmdArm { armedEngine with engState := .uninitialized, init := { armedEngine.init with outMax := false } }).map
        statusWord = some 0x7800
    ∧ after .cmdArm armedEngine = some { armedEngine with cmdRej := true } := by decide

/-- V40, cycle 1. -/
theorem test_update_cycle_1 :
    after .update sampled
      = some { sampled with
          integ := 0x03334000, dutyOut := 0x2667, dutyShadow := 600, samplePending := false, engState := .running } := by
  decide

/-- V40, cycle 20: the integrator clamps and the duty saturates. -/
theorem test_update_cycle_20 :
    (after .update { sampled with engState := .running, integ := 0x3CCDC000 }).map
        (fun t => (t.integ, t.dutyOut, t.dutyShadow, statusWord t)) = some (0x3FFF8000, 0x7FFF, 1999, 0xF3DA) := by
  decide

/-- V43, cycle 1: the negative side; the duty is floored at 0. -/
theorem test_update_floors :
    (after .update { sampled with
        mode := .edge, setpoint := 0, kp := 0, ki := 0x4000, outMin := 0xE000, outMax := 0x2000, rawSample := 1023 }).map
        (fun t => (t.integ, t.dutyOut, t.dutyShadow, t.satI, t.satD)) = some (0xF0000000, 0xE000, 0, true, true) := by
  decide

/-- RESET leaves the stimuli still to come (log 1). -/
theorem test_meets_StimuliStillToComeStay :
    (after .reset { settled with stimuli := [0x400000] }).map (·.stimuli) = some [0x400000] := by decide

/-- V53. -/
theorem test_reset : after .reset settled = some State.reset := by decide

/-! ### States that meet the hypotheses of the obligations -/

theorem test_meets_EncodeInvertsDecodeButForReadData :
    decode 0x01ABCD = .ok (.rd .status) ∧ encode (.rd .status) = (0x01ABCD#24 &&& 0xFF0000)
    ∧ decode 0x48FFFF = .ok (.wrPwmcfg 0xFFFF) ∧ encode (.wrPwmcfg 0xFFFF) = 0x48FFFF := ⟨rfl, rfl, rfl, rfl⟩

theorem test_meets_CommandWordsDecode : 6 ≤ (6 : Word).toNat ∧ 6 ≤ (0xFFFF : Word).toNat := by decide

theorem test_meets_StepRunsTheArrivedStimulus :
    (deliver 0x400005 running).stimuli = [0x400005] ∧ decode 0x400005 = .ok .cmdSmpArm := ⟨rfl, rfl⟩

theorem test_meets_StepRefusesExactlyInvalidWords :
    (deliver 0xB00000 running).stimuli = [0xB00000] ∧ decode 0xB00000 = .error .reservedEvent := ⟨rfl, rfl⟩

theorem test_meets_StepWithoutStimulusIdles : running.stimuli = [] := rfl

theorem test_meets_QueuedStimuliRunInOrder :
    (∀ i ∈ [Instr.cmdRsvd 6, .tick 512, .update], i.wellFormed = true)
    ∧ ∃ t, execSeq [.cmdRsvd 6, .tick 512, .update] { beforeTrigger with stimuli := [0xC00000] } = .next t :=
  ⟨by decide, _, rfl⟩

theorem test_meets_RejectionHasExactlyItsCauses :
    (∃ t, exec .cmdArm running = .next t ∧ rejectionCause .cmdArm running = true ∧ running.cmdRej = false ∧ t.cmdRej = true)
    ∧ (∃ t, exec (.wrStatus 0x0800) flagged = .next t ∧ flagged.cmdRej = true ∧ t.cmdRej = false)
    ∧ ∃ t, exec .reset flagged = .next t ∧ flagged.cmdRej = true ∧ t.cmdRej = false :=
  ⟨⟨_, rfl, by decide, rfl, rfl⟩, ⟨_, rfl, rfl, rfl⟩, ⟨_, rfl, rfl, rfl⟩⟩

theorem test_meets_InvalidConfigHasExactlyItsCauses :
    (∃ t, exec .cmdStart { configured with period := 0 } = .next t
      ∧ invalidConfigCause .cmdStart { configured with period := 0 } = true ∧ configured.cfgErr = false ∧ t.cfgErr = true)
    ∧ (∃ t, exec (.wrStatus 0x0400) flagged = .next t ∧ flagged.cfgErr = true ∧ t.cfgErr = false)
    ∧ ∃ t, exec .cmdConfigure stopped = .next t ∧ stopped.pwmState = .idle ∧ t.pwmState ≠ .idle :=
  ⟨⟨_, rfl, by decide, rfl, rfl⟩, ⟨_, rfl, rfl, rfl⟩, ⟨_, rfl, rfl, by decide⟩⟩

theorem test_meets_MissedSampleIsCounted :
    (∃ t, exec (.tick 200) { beforeTrigger with samplePending := true, missed := 65534 } = .next t
      ∧ capturingTick (.tick 200) beforeTrigger = true ∧ t.missed ≠ 65534)
    ∧ capturingTick (.tick 0) { beforeTrigger with samplePending := true, missed := 65535 } = true :=
  ⟨⟨_, rfl, by decide, by decide⟩, by decide⟩

theorem test_meets_CarrierRangeByMode :
    stopped.mode = .center ∧ State.reset.mode = .edge ∧ validConfig Config.params stopped = true := by decide

theorem test_meets_the_carrier_states :
    State.reset.pwmState ≠ .running ∧ configured.pwmState ≠ .running ∧ running.pwmState = .running
    ∧ configured.pwmState = .configuring ∧ State.reset.pwmState = .idle
    ∧ validConfig Config.params configured = true ∧ validConfig Config.params { configured with period := 0 } = false := by
  decide

theorem test_meets_CarrierConfigurationWrites :
    (∃ t, exec (.tick 7) running = .next t) ∧ Instr.tick 7 ≠ .cmdConfigure ∧ Instr.tick 7 ≠ .cmdStart
    ∧ Instr.tick 7 ≠ .rd .deadtime := ⟨⟨_, rfl⟩, by decide, by decide, by decide⟩

theorem test_meets_TickAdvancesTheCarrier :
    beforeTrigger.pwmState = .running ∧ CarrierInv beforeTrigger ∧ fires beforeTrigger = true ∧ beforeTrigger.smpArmed = true
    ∧ CarrierInv beforeRollover ∧ fires beforeRollover = false ∧ rollsOver beforeRollover = true
    ∧ CarrierInv shortest ∧ fires shortest = true ∧ CarrierInv shortestCenter ∧ fires shortestCenter = true := by decide

theorem test_meets_DutyLatchesOnlyAtPeriodBoundaries :
    rolloverTick (.tick 0) beforeRollover = true ∧ rolloverTick (.tick 0) beforeTrigger = false
    ∧ (∃ t, exec (.tick 0) beforeRollover = .next t) ∧ ∃ t, exec .cmdStart configured = .next t :=
  ⟨by decide, by decide, ⟨_, rfl⟩, ⟨_, rfl⟩⟩

theorem test_meets_TriggerFiresOncePerCarrierPeriod :
    (∃ u t, CarrierInv shortestCenter ∧ firingTick (.tick 5) shortestCenter = true
      ∧ keepsCarrier [.update, .tick 6] = true ∧ exec (.tick 5) shortestCenter = .next u
      ∧ execSeq [.update, .tick 6] u = .next t ∧ tickCount [.update, .tick 6] + 1 = carrierRange shortestCenter)
    ∧ ∃ u t, validConfig Config.params { configured with period := 2, deadtime := 1 } = true
      ∧ exec .cmdStart { configured with period := 2, deadtime := 1 } = .next u ∧ execSeq [.tick 0] u = .next t :=
  ⟨⟨_, _, by decide, by decide, by decide, rfl, rfl, by decide⟩, ⟨_, _, by decide, rfl, rfl⟩⟩

theorem test_meets_WaveformStateMachine :
    (∃ t, exec .cmdStart configured = .next t ∧ t.pwmState = .running)
    ∧ (∃ t, exec .cmdConfigure { configured with period := 0 } = .next t ∧ t.pwmState = .idle)
    ∧ ∃ t, exec (.wrPeriod 1) configured = .next t ∧ t.pwmState = .configuring :=
  ⟨⟨_, rfl, rfl⟩, ⟨_, rfl, rfl⟩, ⟨_, rfl, rfl⟩⟩

theorem test_meets_ChannelWriteAndSamplerArming :
    (∃ t, exec (.tick 7) beforeTrigger = .next t) ∧ beforeTrigger.smpArmed = true ∧ firingTick (.tick 7) beforeTrigger = true
    ∧ (∃ t, exec (.tick 7) running = .next t) ∧ firingTick (.tick 7) running = false :=
  ⟨⟨_, rfl⟩, rfl, by decide, ⟨_, rfl⟩, by decide⟩

theorem test_meets_CaptureKeepsTheLaterSample :
    running.samplePending = false
    ∧ ∃ t, exec (.tick 7) beforeTrigger = .next t ∧ t.rawSample ≠ beforeTrigger.rawSample ∧ t.samplePending = true :=
  ⟨rfl, _, rfl, by decide, rfl⟩

theorem test_meets_NoSampleIsMissedWhenEachIsServed :
    shortest.engState ≠ .uninitialized ∧ shortest.samplePending = false
    ∧ keepsBlock [.tick 5, .update, .tick 6] = true ∧ ServedBeforeNextFiring [.tick 5, .update, .tick 6] shortest
    ∧ ∃ t, execSeq [.tick 5, .update, .tick 6] shortest = .next t :=
  ⟨by decide, rfl, by decide, ⟨fun _ => rfl, fun h => absurd h (by decide), fun _ => rfl, trivial⟩, _, rfl⟩

theorem test_meets_LatencyAssumptionPreventsMisses :
    Inv shortestCenter ∧ shortestCenter.pwmState = .running ∧ shortestCenter.engState ≠ .uninitialized
    ∧ shortestCenter.samplePending = false ∧ keepsCarrier [.tick 5, .update, .tick 6] = true
    ∧ ALat [.tick 5, .update, .tick 6] shortestCenter
    ∧ ∃ t, execSeq [.tick 5, .update, .tick 6] shortestCenter = .next t :=
  ⟨by decide, rfl, by decide, rfl, by decide,
    ⟨fun _ => rfl, fun h => absurd h (by decide), fun _ => rfl, trivial⟩, _, rfl⟩

/-- The same sequence, which ends in a rollover. -/
theorem test_meets_LatencyAssumptionLatchesTheDutyInTime :
    ALat [.tick 5, .update, .tick 6] shortestCenter
    ∧ 0 < captureCount [.tick 5, .update] shortestCenter
    ∧ ∃ u, execSeq [.tick 5, .update] shortestCenter = .next u ∧ rolloverTick (.tick 6) u = true :=
  ⟨⟨fun _ => rfl, fun h => absurd h (by decide), fun _ => rfl, trivial⟩, by decide, _, rfl, by decide⟩

/-- R157: an `UPDATE` that has no effect serves no sample. -/
theorem test_ALat_needs_a_serving_update :
    ¬ALat [.tick 5, .update, .tick 6] { shortest with engState := .uninitialized } :=
  fun h => absurd (h.2.2.1 (by decide)) (by decide)

theorem test_meets_UncapturedRawHasNoEffect :
    capturingTick (.tick 5) running = false ∧ capturingTick (.tick 5) { beforeTrigger with smpArmed := false } = false
    ∧ capturingTick (.tick 5) stopped = false := by decide

theorem test_meets_the_engine_states :
    State.reset.engState = .uninitialized ∧ running.engState ≠ .uninitialized
    ∧ ({ armedEngine with engState := .uninitialized } : State).init.bits = 0b1111
    ∧ armedEngine.outMin.toInt ≤ armedEngine.outMax.toInt ∧ State.reset.init.bits ≠ 0b1111 := by decide

theorem test_meets_EngineStateMachine :
    (∃ t, exec .cmdArm { armedEngine with engState := .uninitialized } = .next t ∧ t.engState = .armed)
    ∧ ∃ t, exec .update sampled = .next t ∧ t.engState = .running :=
  ⟨⟨_, rfl, rfl⟩, ⟨_, rfl, rfl⟩⟩

theorem test_meets_UpdateRunsOncePerCapturedSample :
    (∃ t, exec (.tick 7) beforeTrigger = .next t ∧ updateReq beforeTrigger = false ∧ updateReq t = true)
    ∧ ∃ t, exec .cmdArm { sampled with engState := .uninitialized } = .next t
      ∧ updateReq { sampled with engState := .uninitialized } = false ∧ updateReq t = true :=
  ⟨⟨_, rfl, by decide, by decide⟩, ⟨_, rfl, by decide, by decide⟩⟩

/-- The numbers of V40, cycle 1. -/
theorem test_meets_UpdateFollowsThePiLaw :
    sampled.samplePending = true ∧ sampled.engState ≠ .uninitialized
    ∧ (16384 : Int) = max (-32768) (min 32767 (sampled.setpoint.toInt - 32 * (sampled.rawSample.toNat : Int)))
    ∧ (53690368 : Int) = sampled.integ.toInt + 16384 * sampled.ki.toInt
    ∧ (0 : Int) = 32768 * sampled.outMin.toInt ∧ (1073709056 : Int) = 32768 * sampled.outMax.toInt
    ∧ (8192 : Int) = max (-32768) (min 32767 ((16384 * sampled.kp.toInt + 16384) / 32768))
    ∧ (9831 : Int) = 8192 + (53690368 + 16384) / 32768 := by decide

theorem test_meets_SaturationIsNeverSuppressed :
    (∃ t, exec .update { sampled with integ := 0x3CCDC000 } = .next t ∧ updateReq sampled = true
      ∧ sampled.satSticky = false ∧ t.satSticky = true)
    ∧ (∃ t, exec (.wrStatus 0x0200) flagged = .next t ∧ flagged.satSticky = true ∧ t.satSticky = false)
    ∧ ∃ t, exec (.wrKp 0) sampled = .next t ∧ t.sat = sampled.sat :=
  ⟨⟨_, rfl, by decide, rfl, by decide⟩, ⟨_, rfl, rfl, rfl⟩, ⟨_, rfl, rfl⟩⟩

theorem test_meets_IntegratorStaysInItsBounds :
    sampled.outMin.toInt ≤ sampled.outMax.toInt ∧ updateReq sampled = true ∧ Inv sampled
    ∧ (∃ t, execUpdateWith { Config.params with rawShift := 4 } sampled = .next t) ∧ ∃ t, exec .update sampled = .next t :=
  ⟨by decide, by decide, by decide, ⟨_, rfl⟩, ⟨_, rfl⟩⟩

/-- The state of V42, then the setpoint and the sample moved together and the gain changed. -/
theorem test_meets_EquilibriumIsReachedAtOnce :
    Inv settled ∧ updateReq settled = true ∧ updateError Config.params settled = 0
    ∧ ∃ t, exec .update settled = .next t
      ∧ updateReq { t with samplePending := true, rawSample := 256, setpoint := 0x2000, kp := 1 } = true
      ∧ updateError Config.params { t with samplePending := true, rawSample := 256, setpoint := 0x2000, kp := 1 } = 0
      ∧ ∃ u, exec .update { t with samplePending := true, rawSample := 256, setpoint := 0x2000, kp := 1 } = .next u :=
  ⟨by decide, by decide, by decide, _, rfl, by decide, by decide, _, rfl⟩

theorem test_meets_SaturateClampsToItsWidth :
    1 ≤ 16 ∧ (-32769 : Int) < -(2 ^ (16 - 1)) ∧ (2 ^ (16 - 1) - 1 : Int) < 32768
    ∧ (-(2 ^ (16 - 1)) : Int) ≤ -32768 ∧ (32767 : Int) ≤ 2 ^ (16 - 1) - 1 := by decide

theorem test_meets_the_q15_range :
    (-32768 : Int) ≤ -32768 ∧ (32767 : Int) ≤ 32767 ∧ (mul (-32768) (-32768)).2 = true ∧ (mul (-32768) 32767).2 = false := by
  decide

/-- The corner cases of R104, one for each clause. -/
theorem test_meets_MultiplyAccumulateIsExact :
    (0x3FFFFFFF : Int) + -32768 * -32768 ≤ 2147483647 ∧ (2147483647 : Int) < 0x40000000 + -32768 * -32768
    ∧ (-2147483548 : Int) + -32768 * 32767 < -2147483648 ∧ (-2147483648 : Int) ≤ -2147483548 := by decide

/-- At both ends of the premise and in the case in which `mul` saturates. -/
theorem test_meets_MacDiffersFromMulByOneUnit :
    (mac 1 16384 2147467263).1 = 2147483647 ∧ (mac (-1) 16384 (-2147467264)).1 = -2147483648
    ∧ (mul (-32768) (-32768)).2 = true ∧ (0x3FFFFFFF : Int) + -32768 * -32768 ≤ 2147483647 := by decide

theorem test_meets_AccumulatorNeverOverflows :
    (-1073741824 : Int) ≤ -1073741824 ∧ (1073709056 : Int) ≤ 1073709056 ∧ Inv settled := by decide

theorem test_meets_CalibrationRoundTrips :
    fromFixed Config.params (toFixed Config.params 1023) = 1023 ∧ fromFixed Config.params 32767 = 1023
    ∧ toFixed { Config.params with rawShift := 6 } 1023 = 32767 := by decide

theorem test_meets_AccumulatorRescales :
    (-2147483648 : Int) ≤ 0x03334000 ∧ (0x03334000 : Int) ≤ 2147483647 ∧ toAcc 0 ≤ 0x03334000 ∧ 0x03334000 ≤ toAcc 0x7FFF
    ∧ fromAcc 2147483647 = 65536 ∧ fromAcc (-2147483648) = -65536 := by decide

theorem test_meets_RoundingShiftIsNearest : 1 ≤ 1 ∧ rndShr 1 1 = 1 ∧ rndShr (-1) 1 = 0 := by decide

theorem test_meets_TicksStayBelowTheRange :
    toTicks 32767 131070 = (131066, false) ∧ toTicks 32767 65536 = (65534, false) ∧ toTicks (-32768) 1 = (0, true)
    ∧ toTicks 32767 0 = (0, false) := by decide

theorem test_meets_EveryStepKeepsTheInvariant :
    Inv (deliver 0x800200 beforeTrigger) ∧ ∃ t, step (deliver 0x800200 beforeTrigger) = .next t := ⟨by decide, _, rfl⟩

theorem test_meets_ResetStateStaysUntilTheHostActs :
    ∀ i ∈ [Instr.tick 1023, .update], i.agent = .carrier ∨ i.agent = .dispatcher := by decide

theorem test_meets_EveryRegisterHasItsWriter :
    (∃ t, exec .cmdStart configured = .next t) ∧ Instr.cmdStart.agent = .host
    ∧ (∃ t, exec .update sampled = .next t) ∧ Instr.update.agent = .dispatcher
    ∧ (∃ t, exec (.tick 7) beforeTrigger = .next t) ∧ (Instr.tick 7).agent = .carrier :=
  ⟨⟨_, rfl⟩, rfl, ⟨_, rfl⟩, rfl, ⟨_, rfl⟩, rfl⟩

theorem test_meets_DiagnosticsDecideNothing :
    decidingPart sampled
      = decidingPart { sampled with pol := .activeLow, missed := 7, cmdRej := true, dutyOut := 1, dutyActive := 2, trigger := true }
    ∧ sampled ≠ { sampled with pol := .activeLow, missed := 7, cmdRej := true, dutyOut := 1, dutyActive := 2, trigger := true } := by
  decide

end Sys2Proof.Tests
end

/-! PROOFS. The family of 10_state.md: the reset state, the invariant of the block and that every step keeps it. -/

namespace Sys2Proof.Machine

/-! ### The reset state (10_state.md R37) -/

theorem exec_reset (s : State) : exec .reset s = .next { State.reset with stimuli := s.stimuli } := rfl

theorem init_bits_reset : State.reset.init.bits = 0 := by decide

theorem statusWord_reset : statusWord State.reset = 0 := by decide

theorem carrierInv_reset : CarrierInv State.reset := by decide

theorem engineInv_reset : EngineInv State.reset := by decide

theorem beforeUpdateInv_reset : BeforeUpdateInv State.reset := by decide

theorem flagInv_reset : FlagInv State.reset := rfl

theorem samplerInv_reset : SamplerInv State.reset := by decide

theorem inv_reset : Inv State.reset :=
  ⟨carrierInv_reset, engineInv_reset, beforeUpdateInv_reset, flagInv_reset, samplerInv_reset⟩

/-! ### The carrier (R38 b, 41_waveform.md R129) -/

theorem carrierInv_of_stopped {s : State} (h : s.pwmState ≠ .running) (h0 : s.phase = 0) : CarrierInv s :=
  ⟨fun hr => absurd hr h, fun _ => h0⟩

theorem carrierInv_of_running {s : State} (h : s.pwmState = .running) (hv : validConfig Config.params s = true)
    (hp : s.phase.toNat < carrierRange s) (hd : s.dutyActive.toNat ≤ carrierRange s) : CarrierInv s :=
  ⟨fun _ => ⟨hv, hp, hd⟩, fun hn => absurd h hn⟩

/-- Whatever latches the duty leaves it within the carrier range. -/
theorem latchDuty_le (s : State) : (latchDuty s).dutyActive.toNat ≤ carrierRange s := by
  rw [latchDuty_toNat]
  exact latchValue_le s

/-- With a valid configuration the next phase fits its register, and so it is what `PHASE` holds after the tick. -/
theorem advanceCarrier_phase_toNat {s : State} (hv : validConfig Config.params s = true) :
    (advanceCarrier s).phase.toNat = nextPhase s := by
  obtain ⟨hlow, hhigh⟩ := carrierRange_valid hv
  have hlt := nextPhase_lt hlow
  rw [advanceCarrier_eq]
  exact phaseWord_toNat (by omega)

/-- A tick latches the duty on a rollover and keeps it otherwise. -/
theorem advanceCarrier_dutyActive_cases (s : State) :
    (advanceCarrier s).dutyActive = (latchDuty s).dutyActive ∨ (advanceCarrier s).dutyActive = s.dutyActive := by
  rw [advanceCarrier_eq]
  cases rollsOver s
  · exact .inr rfl
  · exact .inl rfl

theorem carrierInv_start {s : State} (hv : validConfig Config.params s = true) :
    CarrierInv (latchDuty { s with pwmState := .running, phase := 0 }) := by
  have hrange : 0 < carrierRange s := (carrierRange_valid hv).1
  exact carrierInv_of_running rfl hv hrange (latchDuty_le { s with pwmState := .running, phase := 0 })

theorem carrierInv_advanceCarrier {s : State} (hr : s.pwmState = .running) (hs : CarrierInv s) :
    CarrierInv (advanceCarrier s) := by
  obtain ⟨hv, -, hduty⟩ := hs.1 hr
  have hrange : carrierRange (advanceCarrier s) = carrierRange s := by rw [advanceCarrier_eq]; rfl
  apply carrierInv_of_running
  · rw [advanceCarrier_eq]; exact hr
  · rw [advanceCarrier_eq]; exact hv
  · rw [hrange, advanceCarrier_phase_toNat hv]
    exact nextPhase_lt (carrierRange_valid hv).1
  · rw [hrange]
    rcases advanceCarrier_dutyActive_cases s with e | e <;> rw [e]
    · exact latchDuty_le s
    · exact hduty

/-- The writes that could break a configuration are accepted only while the carrier is stopped, when its phase is 0;
what makes it Running checks the configuration first. -/
theorem carrierInv_of_effect {i : Instr} {s t : State} (h : Effect i s t) (hs : CarrierInv s) : CarrierInv t := by
  cases h with
  | wrPeriod _ _ hn | wrPwmcfg _ _ hn | wrDeadtime _ _ hn => exact carrierInv_of_stopped hn (hs.2 hn)
  | configure _ hn | configureInvalid _ hn => exact carrierInv_of_stopped (by simp) (hs.2 hn)
  | start _ _ hv => exact carrierInv_start hv
  | startInvalid _ hc => exact carrierInv_of_stopped (by simp) (hs.2 (by simp [hc]))
  | stop => exact carrierInv_of_stopped (by simp) rfl
  | tick _ _ hr => exact carrierInv_advanceCarrier hr hs
  | tickCapture _ _ hr =>
    rw [capture_eq]
    exact carrierInv_advanceCarrier hr hs
  | reset => exact carrierInv_reset
  | _ => exact hs

/-! ### The engine (R38 c, g) -/

/-- The clamp of the update leaves the integrator between its scaled bounds (43_engine.md R160). -/
theorem updateInteg_mem (p : Config.Params) {s : State} (h : s.outMin.toInt ≤ s.outMax.toInt) :
    toAcc s.outMin.toInt ≤ (updateInteg p s).1 ∧ (updateInteg p s).1 ≤ toAcc s.outMax.toInt :=
  clamp_mem (by rw [toAcc_eq, toAcc_eq]; omega)

/-- With ordered bounds the integrator register holds exactly the clamped value. -/
theorem applyUpdate_integ_toInt (p : Config.Params) {s : State} (h : s.outMin.toInt ≤ s.outMax.toInt) :
    (applyUpdate p s).integ.toInt = (updateInteg p s).1 := by
  obtain ⟨hlow, hhigh⟩ := updateInteg_mem p h
  rw [toAcc_eq] at hlow hhigh
  have hmin := toInt_range s.outMin
  have hmax := toInt_range s.outMax
  rw [applyUpdate_eq]
  exact toInt_ofInt_32 (by omega) (by omega)

theorem engineInv_of_uninitialized {s : State} (h : s.engState = .uninitialized) : EngineInv s :=
  ⟨fun hn => absurd h hn, fun hr => by simp [h] at hr⟩

/-- Marking one more register as written keeps a full `INIT` full. -/
theorem init_all_kp {f : InitFlags} (h : f.all = true) : InitFlags.all { f with kp := true } = true := by
  simp_all [InitFlags.all]

theorem init_all_ki {f : InitFlags} (h : f.all = true) : InitFlags.all { f with ki := true } = true := by
  simp_all [InitFlags.all]

theorem engineInv_applyUpdate (p : Config.Params) {s : State} (hreq : updateReq s = true) (hs : EngineInv s) :
    EngineInv (applyUpdate p s) := by
  obtain ⟨-, heng⟩ := (updateReq_iff s).1 hreq
  obtain ⟨hinit, hbounds⟩ := hs.1 heng
  refine ⟨fun _ => ⟨hinit, hbounds⟩, fun _ => ?_⟩
  rw [applyUpdate_integ_toInt p hbounds]
  exact updateInteg_mem p hbounds

/-- The bounds are frozen from `CMD ARM` on, which asks for them in order, and only the update writes the integrator. -/
theorem engineInv_of_effect {i : Instr} {s t : State} (h : Effect i s t) (hs : EngineInv s) : EngineInv t := by
  cases h with
  | wrKp => exact ⟨fun hn => (hs.1 hn).imp_left init_all_kp, hs.2⟩
  | wrKi => exact ⟨fun hn => (hs.1 hn).imp_left init_all_ki, hs.2⟩
  | wrOutMin _ _ hu | wrOutMax _ _ hu => exact engineInv_of_uninitialized hu
  | arm _ ha =>
    obtain ⟨-, hinit, hbounds⟩ := (canArm_iff s).1 ha
    exact ⟨fun _ => ⟨hinit, hbounds⟩, fun hr => by simp at hr⟩
  | tickCapture =>
    rw [capture_eq, advanceCarrier_eq]
    exact hs
  | tick =>
    rw [advanceCarrier_eq]
    exact hs
  | update _ hreq => exact engineInv_applyUpdate Config.params hreq hs
  | reset => exact engineInv_reset
  | _ => exact hs

/-! ### Before the first update (70_reset_and_hazards.md R223) -/

/-- A shadow duty of 0 is latched as an active duty of 0. -/
theorem latchDuty_dutyActive_eq_zero {s : State} (h : s.dutyShadow = 0) : (latchDuty s).dutyActive = 0 := by
  apply BitVec.eq_of_toNat_eq
  rw [latchDuty_toNat, latchValue, h]
  simp

theorem beforeUpdateInv_latchDuty {s : State} (hs : BeforeUpdateInv s) : BeforeUpdateInv (latchDuty s) := by
  intro he
  obtain ⟨hinteg, hout, hshadow, -, hflags⟩ := hs he
  exact ⟨hinteg, hout, hshadow, latchDuty_dutyActive_eq_zero hshadow, hflags⟩

theorem beforeUpdateInv_advanceCarrier {s : State} (hs : BeforeUpdateInv s) : BeforeUpdateInv (advanceCarrier s) := by
  unfold advanceCarrier
  split
  · exact beforeUpdateInv_latchDuty hs
  · exact hs

/-- Nothing but an update writes these registers, except that a period boundary copies a shadow duty of 0. -/
theorem beforeUpdateInv_of_effect {i : Instr} {s t : State} (h : Effect i s t) (hs : BeforeUpdateInv s) :
    BeforeUpdateInv t := by
  cases h with
  | wrStatus d =>
    intro he
    obtain ⟨hinteg, hout, hshadow, hactive, hI, hD, hsticky⟩ := hs he
    exact ⟨hinteg, hout, hshadow, hactive, hI, hD, by simp [hsticky]⟩
  | start => exact beforeUpdateInv_latchDuty hs
  | tick => exact beforeUpdateInv_advanceCarrier hs
  | tickCapture =>
    rw [capture_eq]
    exact beforeUpdateInv_advanceCarrier hs
  | arm _ ha =>
    obtain ⟨heng, -, -⟩ := (canArm_iff s).1 ha
    exact fun _ => hs (by simp [heng])
  | update => exact fun he => absurd rfl he
  | reset => exact beforeUpdateInv_reset
  | _ => exact hs

/-! ### The live flags (R38 e) -/

/-- The three live bits are written together, by an update or by `RESET`. -/
theorem flagInv_of_effect {i : Instr} {s t : State} (h : Effect i s t) (hs : FlagInv s) : FlagInv t := by
  cases h with
  | tick =>
    rw [advanceCarrier_eq]
    exact hs
  | tickCapture =>
    rw [capture_eq, advanceCarrier_eq]
    exact hs
  | update => rfl
  | reset => exact flagInv_reset
  | _ => exact hs

/-! ### The sampler (42_sampler.md R141, R142) -/

theorem samplerInv_of_armed {s : State} (h : s.smpArmed = true) : SamplerInv s :=
  ⟨fun hn => by simp [h] at hn, fun _ => h⟩

/-- An update serves a sample, and only an armed sampler has one. -/
theorem smpArmed_of_updateReq {s : State} (hs : SamplerInv s) (hreq : updateReq s = true) : s.smpArmed = true := by
  obtain ⟨hpending, -⟩ := (updateReq_iff s).1 hreq
  by_contra hn
  obtain ⟨-, -, hnone, -⟩ := hs.1 (by simpa using hn)
  simp [hpending] at hnone

/-- Only a tick of an armed sampler captures, and only `RESET` disarms it. -/
theorem samplerInv_of_effect {i : Instr} {s t : State} (h : Effect i s t) (hs : SamplerInv s) : SamplerInv t := by
  cases h with
  | smpArm => exact samplerInv_of_armed rfl
  | tick =>
    rw [advanceCarrier_eq]
    exact hs
  | tickCapture _ _ _ hc =>
    obtain ⟨-, harmed⟩ := Bool.and_eq_true_iff.1 hc
    rw [capture_eq, advanceCarrier_eq]
    exact samplerInv_of_armed harmed
  | arm => exact ⟨hs.1, fun hr => by simp at hr⟩
  | update _ hreq =>
    have harmed := smpArmed_of_updateReq hs hreq
    exact samplerInv_of_armed harmed
  | reset => exact samplerInv_reset
  | _ => exact hs

/-! ### The block -/

theorem inv_of_effect {i : Instr} {s t : State} (h : Effect i s t) (hs : Inv s) : Inv t := by
  obtain ⟨hcarrier, hengine, hbefore, hflags, hsampler⟩ := hs
  exact ⟨carrierInv_of_effect h hcarrier, engineInv_of_effect h hengine, beforeUpdateInv_of_effect h hbefore,
    flagInv_of_effect h hflags, samplerInv_of_effect h hsampler⟩

/-- Every stimulus keeps the invariant. -/
theorem inv_of_exec {i : Instr} {s t : State} (h : exec i s = .next t) (hs : Inv s) : Inv t :=
  inv_of_effect (effect_of_exec h) hs

/-- The invariant reads none of the model's own fields (log 1, log 2, log 3). -/
theorem inv_lowerOutputs {s : State} (hs : Inv s) : Inv (lowerOutputs s) := hs

theorem inv_accept (rest : List StimulusWord) {s : State} (hs : Inv s) : Inv (accept rest s) := hs

theorem inv_of_step {s t : State} (h : step s = .next t) (hs : Inv s) : Inv t := by
  rcases step_cases h with ⟨-, rfl⟩ | ⟨w, rest, i, -, -, he⟩
  · exact inv_lowerOutputs hs
  · exact inv_of_exec he (inv_accept rest hs)

/-- Settles O53: the five parts of the invariant are each kept by every effect a stimulus can have. -/
theorem everyStepKeepsTheInvariant : Obligations.EveryStepKeepsTheInvariant :=
  fun _ _ hs h => inv_of_step h hs

/-- Settles O54, from the five parts of the invariant at reset. -/
theorem resetStateMeetsTheInvariant : Obligations.ResetStateMeetsTheInvariant := inv_reset

/-- Settles O55: `RESET` puts the literal zeros of `State.reset` in every register, whatever the state was. -/
theorem resetClearsEveryPieceOfState : Obligations.ResetClearsEveryPieceOfState :=
  ⟨rfl, fun s => ⟨_, exec_reset s,
    rfl, rfl, rfl, rfl, rfl, rfl, rfl, rfl, rfl, rfl, rfl, rfl, rfl, rfl, rfl, rfl, init_bits_reset,
    rfl, rfl, rfl, rfl, rfl, rfl, rfl, rfl, rfl, rfl, rfl, rfl, statusWord_reset, rfl⟩⟩

end Sys2Proof.Machine

/-! PROOFS. The family of 30_encoding.md: the words of the host reads, the host writes, the commands and the hardware
events (R83 to R86). Each word written as a sum is a word of its format, on which Laws/Decode.lean says what the decoder
answers. -/

namespace Sys2Proof

/-! ### Words of format H -/

/-- The word of a host read as a sum (R83), whatever stands in its ignored `DATA`. -/
theorem hostWord_read_add (a : HostReg) (x : Word) :
    (a.addr.setWidth 24 <<< 16) + x.setWidth 24 = hostWord 0#2 a x := by
  have := a.addr.isLt
  have := x.isLt
  apply BitVec.eq_of_toNat_eq
  rw [hostWord_toNat, BitVec.toNat_add, BitVec.toNat_shiftLeft, Nat.shiftLeft_eq, BitVec.toNat_setWidth,
    BitVec.toNat_setWidth]
  simp only [BitVec.toNat_ofNat]
  omega

/-- Settles O4: the sum is a word of format H with `KIND` 00, on which the decoder reads the address only. -/
theorem readWordsDecode : Obligations.ReadWordsDecode := by
  intro a x
  rw [hostWord_read_add]
  exact decode_read a x

/-- The number that stands before the data of a write depends on the register's address alone (R84). -/
theorem decode_write_add (a : HostReg) (d : Word) :
    decode (BitVec.ofNat 24 (0x400000 + a.addr.toNat * 0x10000) + d.setWidth 24) = .ok (decodeWrite a d) := by
  rw [← hostWord_write_add a.addr.toNat a rfl d]
  exact decode_write a d

/-- Settles O5: one register for each row; a write to `CMD` is the command its data names. -/
theorem writeWordsDecode : Obligations.WriteWordsDecode := fun d =>
  ⟨decode_write_add .cmd d, decode_write_add .status d, decode_write_add .setpoint d, decode_write_add .kp d,
    decode_write_add .ki d, decode_write_add .outMin d, decode_write_add .outMax d, decode_write_add .period d,
    decode_write_add .pwmcfg d, decode_write_add .deadtime d, decode_write_add .channel d,
    decode_write_add .dutyOut d, decode_write_add .dutyActive d, decode_write_add .rawSample d,
    decode_write_add .missed d, decode_write_add .rsvd d⟩

/-! ### Commands -/

/-- A write to `CMD` decodes to the command whose code is its data (R85). -/
theorem decode_command_add (code : Word) :
    decode (0x400000#24 + code.setWidth 24) = .ok (decodeCommand code) :=
  decode_write_add .cmd code

/-- Settles O6: the codes 0 to 5 are six literal words of `CMD`; every other code is reserved. -/
theorem commandWordsDecode : Obligations.CommandWordsDecode := by
  refine ⟨decode_command_add 0, decode_command_add 1, decode_command_add 2, decode_command_add 3,
    decode_command_add 4, decode_command_add 5, fun code h => ?_⟩
  have hreserved : reservedCode code = true := decide_eq_true h
  rw [decode_command_add, decodeCommand_reserved code hreserved]

/-! ### Words of format E -/

theorem decode_tick (raw : RawWord) : decode (eventWord 0#2 raw) = .ok (.tick raw) := by
  rw [decode_event]
  simp [decodeEvent]

theorem decode_update : decode (eventWord 1#2 0#10) = .ok .update := by
  rw [decode_event]
  simp [decodeEvent]

theorem decode_reset : decode (eventWord 2#2 0#10) = .ok .reset := by
  rw [decode_event]
  simp [decodeEvent]

/-- Settles O7: the sum is a word of format E, and the words of `UPDATE` and `RESET` have a `RAW` of 0. -/
theorem eventWordsDecode : Obligations.EventWordsDecode := by
  refine ⟨fun raw => ?_, decode_update, decode_reset⟩
  rw [eventWord_add]
  exact decode_tick raw

end Sys2Proof

/-! PROOFS. The family of 40_fpuq.md: what each function of the arithmetic unit answers, over the whole domain on which
the rules R100 to R109 state it. -/

namespace Sys2Proof.Machine

/-! ### Saturation (R100, R101) -/

theorem clamp_of_lt {x lo : Int} (hi : Int) (h : x < lo) : clamp x lo hi = (lo, true) := if_pos h

theorem clamp_of_gt {x lo hi : Int} (hle : lo ≤ hi) (h : hi < x) : clamp x lo hi = (hi, true) := by
  rw [clamp, if_neg (by omega), if_pos h]

/-- With ordered bounds a second clamp between them changes nothing. -/
theorem clamp_clamp {lo hi : Int} (x : Int) (hle : lo ≤ hi) :
    clamp (clamp x lo hi).1 lo hi = ((clamp x lo hi).1, false) := by
  obtain ⟨hlow, hhigh⟩ := clamp_mem (x := x) hle
  exact clamp_of_mem hlow hhigh

/-- The range of a signed number has its bounds in order, whatever the width. -/
theorem signed_bounds_ordered (bits : Nat) : -(2 ^ (bits - 1) : Int) ≤ 2 ^ (bits - 1) - 1 := by
  have hpos : (0 : Int) < 2 ^ (bits - 1) := by positivity
  omega

/-- Settles O44: `saturate` is a clamp between ordered bounds. -/
theorem saturateClampsToItsWidth : Obligations.SaturateClampsToItsWidth := by
  intro x bits _
  have hle := signed_bounds_ordered bits
  exact ⟨clamp_of_lt _, clamp_of_gt hle, clamp_of_mem, clamp_clamp x hle⟩

/-! ### The rounding shift (R102) -/

/-- A whole unit of the shift is twice the half that is added before it. -/
theorem two_pow_eq_half_add_half {k : Nat} (hk : 1 ≤ k) : (2 : Int) ^ k = 2 ^ (k - 1) + 2 ^ (k - 1) := by
  rw [← mul_two, ← pow_succ, Nat.sub_add_cancel hk]

/-- The remainder of the rounding lies in a half-open interval of one unit about 0, so a tie goes up. -/
theorem rndShr_remainder {k : Nat} (hk : 1 ≤ k) (x : Int) :
    -(2 ^ (k - 1)) ≤ x - rndShr x k * 2 ^ k ∧ x - rndShr x k * 2 ^ k < 2 ^ (k - 1) := by
  have hunit : (0 : Int) < 2 ^ k := by positivity
  have hhalf := two_pow_eq_half_add_half hk
  have hdiv : rndShr x k * 2 ^ k + (x + 2 ^ (k - 1)) % 2 ^ k = x + 2 ^ (k - 1) := Int.ediv_mul_add_emod _ _
  have hnonneg := Int.emod_nonneg (x + 2 ^ (k - 1)) hunit.ne'
  have hlt := Int.emod_lt_of_pos (x + 2 ^ (k - 1)) hunit
  constructor <;> linarith

theorem rndShr_mono (k : Nat) {x y : Int} (h : x ≤ y) : rndShr x k ≤ rndShr y k :=
  Int.ediv_le_ediv (by positivity) (by omega)

theorem rndShr_mul_two_pow {k : Nat} (hk : 1 ≤ k) (m : Int) : rndShr (m * 2 ^ k) k = m := by
  have hpos : (0 : Int) < 2 ^ (k - 1) := by positivity
  have hhalf := two_pow_eq_half_add_half hk
  have hzero : (2 : Int) ^ (k - 1) / 2 ^ k = 0 := Int.ediv_eq_zero_of_lt hpos.le (by omega)
  rw [rndShr, add_comm, Int.add_mul_ediv_right _ _ (by positivity), hzero, zero_add]

/-- Settles O45, from the division with remainder of the sum of the value and half a unit. -/
theorem roundingShiftIsNearest : Obligations.RoundingShiftIsNearest :=
  fun k hk => ⟨rndShr_remainder hk, fun _ _ => rndShr_mono k, rndShr_mul_two_pow hk⟩

/-! ### The multiply (R103) -/

theorem mul_swap (a b : Int) : mul a b = mul b a := by
  rw [mul, mul, Int.mul_comm]

/-- A value of the Q15 square outside its corner of two -1.0 has a product at least one Q15 unit below +1.0. -/
theorem product_le_of_not_corner {a b : Int} (ha : -32768 ≤ a ∧ a ≤ 32767) (hb : -32768 ≤ b ∧ b ≤ 32767)
    (hne : ¬ (a = -32768 ∧ b = -32768)) : a * b ≤ 1073709056 := by
  obtain ⟨ha1, ha2⟩ := ha
  obtain ⟨hb1, hb2⟩ := hb
  by_cases h : a = -32768
  · have hb' : -32767 ≤ b := by omega
    rw [h]
    omega
  · have ha' : -32767 ≤ a := by omega
    nlinarith

theorem rndShr_product_range {a b : Int} (ha : -32768 ≤ a ∧ a ≤ 32767) (hb : -32768 ≤ b ∧ b ≤ 32767) :
    -32767 ≤ rndShr (a * b) 15 ∧ rndShr (a * b) 15 ≤ 32768 := by
  obtain ⟨hlow, hhigh⟩ := product_range ha hb
  rw [rndShr_15]
  omega

/-- -1.0 times -1.0 saturates to the greatest Q15 value. -/
theorem mul_corner : mul (-32768) (-32768) = (32767, true) := by decide

/-- Everywhere else the rounded product is a Q15 value. -/
theorem mul_of_not_corner {a b : Int} (ha : -32768 ≤ a ∧ a ≤ 32767) (hb : -32768 ≤ b ∧ b ≤ 32767)
    (hne : ¬ (a = -32768 ∧ b = -32768)) :
    rndShr (a * b) 15 ≤ 32767 ∧ mul a b = (rndShr (a * b) 15, false) := by
  have hprod := product_le_of_not_corner ha hb hne
  obtain ⟨hlow, -⟩ := rndShr_product_range ha hb
  have hhigh : rndShr (a * b) 15 ≤ 32767 := by
    rw [rndShr_15]
    omega
  refine ⟨hhigh, ?_⟩
  rw [mul, sat_16, clamp_of_mem (by omega) hhigh]

/-- Settles O46, by the corner of the Q15 square and the rest of it. -/
theorem multiplyRoundsTheExactProduct : Obligations.MultiplyRoundsTheExactProduct := by
  intro a b ha1 ha2 hb1 hb2
  obtain ⟨hprodLow, hprodHigh⟩ := product_range ⟨ha1, ha2⟩ ⟨hb1, hb2⟩
  obtain ⟨hrndLow, hrndHigh⟩ := rndShr_product_range ⟨ha1, ha2⟩ ⟨hb1, hb2⟩
  refine ⟨mul_swap a b, ?_⟩
  by_cases hcorner : a = -32768 ∧ b = -32768
  · obtain ⟨rfl, rfl⟩ := hcorner
    rw [mul_corner]
    exact ⟨by simp, fun _ => rfl, nofun, hprodLow, hprodHigh, hrndLow, hrndHigh, by decide, by decide⟩
  · obtain ⟨hle, heq⟩ := mul_of_not_corner ⟨ha1, ha2⟩ ⟨hb1, hb2⟩ hcorner
    rw [heq]
    exact ⟨by simp [hcorner], nofun, fun _ => rfl, hprodLow, hprodHigh, hrndLow, hrndHigh, hrndLow, hle⟩

/-! ### The multiply-accumulate (R104) -/

theorem mac_eq_clamp (a b acc : Int) : mac a b acc = clamp (acc + a * b) (-2147483648) 2147483647 := sat_32 _

/-- A product of 0 leaves an accumulator of 32 bits as it is. -/
theorem mac_of_mul_eq_zero {a b acc : Int} (h : a * b = 0) (hlow : -2147483648 ≤ acc) (hhigh : acc ≤ 2147483647) :
    mac a b acc = (acc, false) := by
  rw [mac_eq_clamp, h, add_zero, clamp_of_mem hlow hhigh]

/-- Settles O47: `mac` is the clamp of the exact sum to 32 bits. -/
theorem multiplyAccumulateIsExact : Obligations.MultiplyAccumulateIsExact := by
  intro a b acc hlow hhigh
  refine ⟨?_, ?_, ?_, mac_of_mul_eq_zero (zero_mul b) hlow hhigh, mac_of_mul_eq_zero (mul_zero a) hlow hhigh⟩
  · exact fun h1 h2 => (mac_eq_clamp a b acc).trans (clamp_of_mem h1 h2)
  · exact fun h => (mac_eq_clamp a b acc).trans (clamp_of_lt _ h)
  · exact fun h => (mac_eq_clamp a b acc).trans (clamp_of_gt (by decide) h)

/-! ### The calibration (R106) -/

/-- With the defaults every 10-bit conversion is shifted by five bits and does not saturate. -/
theorem toFixed_params_nat {raw : Nat} (h : raw ≤ 1023) : toFixed Config.params raw = raw * 32 := by
  have hword : (BitVec.ofNat 10 raw).toNat = raw := by
    rw [BitVec.toNat_ofNat]
    exact Nat.mod_eq_of_lt (by omega)
  rw [← hword]
  exact toFixed_params (BitVec.ofNat 10 raw)

theorem fromFixed_params (fb : Int) : fromFixed Config.params fb = fb / 32 := add_zero _

/-- Whatever the calibration, `to_fixed` gives a single-width value. -/
theorem toFixed_range (p : Config.Params) (raw : Nat) : -32768 ≤ toFixed p raw ∧ toFixed p raw ≤ 32767 :=
  clamp_mem (by decide)

/-- Settles O50: the default calibration multiplies by 32 and its inverse divides by 32. -/
theorem calibrationRoundTrips : Obligations.CalibrationRoundTrips := by
  refine ⟨fun raw h => ⟨toFixed_params_nat h, ?_⟩, fun fb h1 h2 => ?_, fun p raw _ => ⟨rfl, toFixed_range p raw⟩⟩
  · rw [toFixed_params_nat h, fromFixed_params]
    omega
  · rw [fromFixed_params, toFixed_params_nat (by omega)]
    omega

/-! ### The accumulator's scale (R107, R108) -/

theorem fromAcc_toAcc (v : Int) : fromAcc (toAcc v) = v := rndShr_mul_two_pow (by decide) v

theorem toAcc_range {v : Int} (h1 : -32768 ≤ v) (h2 : v ≤ 32767) :
    -1073741824 ≤ toAcc v ∧ toAcc v ≤ 1073709056 := by
  rw [toAcc_eq]
  omega

theorem fromAcc_range {x : Int} (h1 : -2147483648 ≤ x) (h2 : x ≤ 2147483647) :
    -65536 ≤ fromAcc x ∧ fromAcc x ≤ 65536 := by
  rw [fromAcc_eq]
  omega

/-- Settles O51: one rescale multiplies by 2^15, the other is the rounding shift by 15. -/
theorem accumulatorRescales : Obligations.AccumulatorRescales := by
  refine ⟨fun v h1 h2 => ?_, fun x h1 h2 => ?_⟩
  · obtain ⟨hlow, hhigh⟩ := toAcc_range h1 h2
    exact ⟨toAcc_eq v, hlow, hhigh, fromAcc_toAcc v⟩
  · obtain ⟨hlow, hhigh⟩ := fromAcc_range h1 h2
    exact ⟨rfl, hlow, hhigh, fun _ _ => fromAcc_mem⟩

/-! ### The tick count (R109) -/

theorem toTicks_floored_iff (d : Int) (r : Nat) : (toTicks d r).2 = true ↔ d < 0 := decide_eq_true_iff

theorem toTicks_range_zero (d : Int) : (toTicks d 0).1 = 0 := by
  rw [toTicks_eq]
  simp

/-- The tick count grows with the duty, in every range. -/
theorem toTicks_mono {d d' : Int} (r : Nat) (h : d ≤ d') : (toTicks d r).1 ≤ (toTicks d' r).1 := by
  rw [toTicks_eq, toTicks_eq]
  exact Nat.div_le_div_right (Nat.mul_le_mul_right r (Int.toNat_le_toNat h))

/-- Settles O52: the tick count is below a range that is not 0, and is 0 in a range of 0. -/
theorem ticksStayBelowTheRange : Obligations.TicksStayBelowTheRange := by
  intro d r _ hd _
  have hfloor : (max d 0).toNat = d.toNat := by omega
  have hzero : r = 0 → (toTicks d r).1 = 0 := by
    rintro rfl
    exact toTicks_range_zero d
  have hlt : 0 < r → (toTicks d r).1 < r := toTicks_lt hd
  refine ⟨?_, toTicks_floored_iff d r, by omega, hzero, by omega, fun d' h _ => toTicks_mono r h⟩
  rw [toTicks_eq, hfloor]

end Sys2Proof.Machine

/-! PROOFS. The family of 41_waveform.md: the carrier's range and the check of its configuration, the configuration
writes, the carrier commands and the tick (R120 to R130). -/

namespace Sys2Proof.Machine

/-! ### Range and configuration (R120, R121) -/

theorem carrierRange_center {s : State} (h : s.mode = .center) : carrierRange s = 2 * s.period.toNat := by
  rw [carrierRange, h]

theorem carrierRange_edge {s : State} (h : s.mode = .edge) : carrierRange s = s.period.toNat := by
  rw [carrierRange, h]

/-- Settles O20: one equation for each mode, and the bounds that the width of `PERIOD` and a valid configuration give. -/
theorem carrierRangeByMode : Obligations.CarrierRangeByMode := fun s =>
  ⟨carrierRange_center, carrierRange_edge, carrierRange_le s, carrierRange_valid⟩

/-- The two readings of R121's half period agree: an integer is at most half of another iff it is at most the half
rounded down. -/
theorem two_mul_le_iff_not_gt_half (deadtime period : Nat) : 2 * deadtime ≤ period ↔ ¬deadtime > period / 2 := by
  omega

/-- Settles O21: `validConfig_iff` is the exact reading, and the rounded-down reading says the same. -/
theorem validConfigBounds : Obligations.ValidConfigBounds := by
  intro s
  refine ⟨validConfig_iff s, ?_⟩
  rw [← two_mul_le_iff_not_gt_half]
  exact validConfig_iff s

/-! ### The carrier commands (R125 to R127) -/

/-- Settles O23: in each of the three cases of `CMD CONFIGURE` one clause speaks. -/
theorem configureChecksTheConfiguration : Obligations.ConfigureChecksTheConfiguration := by
  refine ⟨rfl, fun s => ?_⟩
  rcases execCmdConfigure_cases s with ⟨hr, e⟩ | ⟨hn, hv, e⟩ | ⟨hn, hv, e⟩
  · exact ⟨fun hn _ => absurd hr hn, fun hn _ => absurd hr hn, fun _ => e⟩
  · exact ⟨fun _ _ => e, fun _ hf => by simp [hv] at hf, fun hr => absurd hr hn⟩
  · exact ⟨fun _ ht => by simp [hv] at ht, fun _ _ => e, fun hr => absurd hr hn⟩

/-- Settles O24: in each of the four cases of `CMD START` one clause speaks; a valid start is a duty latch. -/
theorem startIsAPeriodBoundary : Obligations.StartIsAPeriodBoundary := by
  refine ⟨rfl, fun s => ?_⟩
  rcases execCmdStart_cases s with ⟨hs, e⟩ | ⟨hs, hv, e⟩ | ⟨hs, hv, e⟩ | ⟨hs, e⟩
  · exact ⟨by simp [hs], by simp [hs], fun _ => e, by simp [hs]⟩
  · exact ⟨fun _ _ => ⟨_, e, latchDuty_toNat { s with pwmState := .running, phase := 0 }, rfl⟩,
      by simp [hv], by simp [hs], by simp [hs]⟩
  · exact ⟨by simp [hv], fun _ _ => e, by simp [hs], by simp [hs]⟩
  · exact ⟨by simp [hs], by simp [hs], by simp [hs], fun _ => e⟩

theorem exec_cmdStop_of_ne_idle {s : State} (h : s.pwmState ≠ .idle) :
    exec .cmdStop s = .next { s with pwmState := .idle, phase := 0 } := by
  rcases execCmdStop_cases s with ⟨_, e⟩ | ⟨hi, _⟩
  · exact e
  · exact absurd hi h

theorem exec_cmdStop_of_idle {s : State} (h : s.pwmState = .idle) : exec .cmdStop s = .next s := by
  rcases execCmdStop_cases s with ⟨hn, _⟩ | ⟨_, e⟩
  · exact absurd h hn
  · exact e

/-- Settles O25: both states that are not Idle are stopped alike. -/
theorem stopReturnsTheCarrierToIdle : Obligations.StopReturnsTheCarrierToIdle := by
  refine ⟨rfl, fun s => ⟨fun hs => exec_cmdStop_of_ne_idle ?_, exec_cmdStop_of_idle⟩⟩
  rcases hs with hs | hs <;> simp [hs]

/-! ### The configuration writes (R122 to R124) -/

theorem modeOf_eq (d : Word) : modeOf d = if d.toNat % 2 = 1 then .center else .edge := by
  simp [modeOf, BitVec.getLsbD, Nat.testBit_zero]

theorem polOf_eq (d : Word) : polOf d = if d.toNat / 2 % 2 = 1 then .activeLow else .activeHigh := by
  simp [polOf, BitVec.getLsbD, Nat.testBit_succ, Nat.testBit_zero]

/-- Every register but `DEADTIME` itself reads the same whatever `DEADTIME` holds. -/
theorem readHost_withDeadtime {a : HostReg} (h : a ≠ .deadtime) (d : Word) (s : State) :
    readHost a { s with deadtime := d } = readHost a s := by
  cases a with
  | deadtime => exact absurd rfl h
  | _ => rfl

/-- A stimulus that neither checks the configuration nor reads `DEADTIME` back takes two states that differ in
`DEADTIME` alone to two states that differ in `DEADTIME` at most: no guard and no written value depends on it. -/
theorem exec_withDeadtime {i : Instr} {s t : State} (d : Word) (h : exec i s = .next t) (hconf : i ≠ .cmdConfigure)
    (hstart : i ≠ .cmdStart) (hread : i ≠ .rd .deadtime) :
    ∃ t', exec i { s with deadtime := d } = .next t' ∧ t' = { t with deadtime := t'.deadtime } := by
  cases effect_of_exec h with
  | rd a =>
    have ha : a ≠ .deadtime := fun e => hread (by rw [e])
    rw [← readHost_withDeadtime ha d s]
    exact ⟨_, rfl, rfl⟩
  | configure | configureInvalid | configureRejected => exact absurd rfl hconf
  | start | startInvalid | startRunning | startRejected => exact absurd rfl hstart
  | wrPeriod _ _ hg | wrPwmcfg _ _ hg | wrDeadtime _ _ hg | tickIdle _ _ hg
  | wrOutMinRejected _ _ hg | wrOutMaxRejected _ _ hg => exact ⟨_, if_neg hg, rfl⟩
  | wrPeriodRejected _ _ hg | wrPwmcfgRejected _ _ hg | wrDeadtimeRejected _ _ hg
  | wrOutMin _ _ hg | wrOutMax _ _ hg | arm _ hg | update _ hg => exact ⟨_, if_pos hg, rfl⟩
  | armRejected _ hg | updateIdle _ hg => exact ⟨_, if_neg (Bool.eq_false_iff.1 hg), rfl⟩
  | stop _ hg => exact ⟨_, exec_cmdStop_of_ne_idle hg, rfl⟩
  | stopIdle _ hg => exact ⟨_, exec_cmdStop_of_idle hg, rfl⟩
  | tick raw _ hr | tickCapture raw _ hr =>
    have e := h.symm.trans (execTick_running raw s hr)
    injection e with e
    rw [e]
    exact ⟨_, execTick_running raw { s with deadtime := d } hr, rfl⟩
  | _ => exact ⟨_, rfl, rfl⟩

/-- Settles O22: the words are sums as in R84, each write is accepted or rejected as a whole, and `exec_withDeadtime`. -/
theorem carrierConfigurationWrites : Obligations.CarrierConfigurationWrites := by
  intro d s
  refine ⟨hostWord_write_add 7 .period rfl d, hostWord_write_add 8 .pwmcfg rfl d, hostWord_write_add 9 .deadtime rfl d,
    fun hn => ?_, fun hr => ⟨if_pos hr, if_pos hr, if_pos hr⟩, fun i t h => exec_withDeadtime d h⟩
  rw [← modeOf_eq, ← polOf_eq]
  exact ⟨if_neg hn, if_neg hn, if_neg hn⟩

/-! ### The tick (R128, R130) -/

theorem nextPhase_eq (s : State) :
    nextPhase s = if carrierRange s ≤ s.phase.toNat + 1 then 0 else s.phase.toNat + 1 := by
  simp [nextPhase, rollsOver]

theorem advanceCarrier_trigger (s : State) : (advanceCarrier s).trigger = fires s := by
  rw [advanceCarrier_eq]

/-- A tick latches the duty on a rollover and only there (R129). -/
theorem advanceCarrier_dutyActive_toNat (s : State) :
    (advanceCarrier s).dutyActive.toNat
      = if carrierRange s ≤ s.phase.toNat + 1 then min s.dutyShadow.toNat (carrierRange s) else s.dutyActive.toNat := by
  rw [advanceCarrier_eq]
  by_cases h : carrierRange s ≤ s.phase.toNat + 1
  · rw [if_pos h, if_pos ((rollsOver_iff s).2 h)]
    exact latchDuty_toNat s
  · rw [if_neg h, if_neg (mt (rollsOver_iff s).1 h)]

/-- When the pulse accompanies the tick: on a rollover, or at the peak that the new phase reaches (R130). -/
theorem advanceCarrier_trigger_iff {s : State} (hv : validConfig Config.params s = true) :
    (advanceCarrier s).trigger = true
      ↔ (s.mode = .edge ∧ carrierRange s ≤ s.phase.toNat + 1)
        ∨ (s.mode = .center ∧ (advanceCarrier s).phase = s.period) := by
  rw [advanceCarrier_trigger, ← rollsOver_iff, ← BitVec.toNat_inj, advanceCarrier_phase_toNat hv]
  rcases fires_cases s with ⟨hm, e⟩ | ⟨hm, e⟩ <;> simp [hm, e]

/-- The count of missed samples after a capture (42_sampler.md R142). -/
theorem capture_missed_toNat (raw : RawWord) (s : State) :
    (capture raw s).missed.toNat
      = if s.samplePending = true then min (s.missed.toNat + 1) 65535 else s.missed.toNat := by
  rw [capture_eq]
  cases s.samplePending
  · rfl
  · exact countMissed_toNat s.missed

/-- Settles O26: a tick advances the carrier, and one that fires with the sampler armed captures on top of that; a
capture leaves what the carrier did as it is. -/
theorem tickAdvancesTheCarrier : Obligations.TickAdvancesTheCarrier := by
  intro raw s
  refine ⟨(eventWord_add raw).symm, fun hn => if_neg hn, fun hr hinv => ?_⟩
  obtain ⟨hv, -, -⟩ := hinv.1 hr
  have hphase := (advanceCarrier_phase_toNat hv).trans (nextPhase_eq s)
  have hduty := advanceCarrier_dutyActive_toNat s
  have htrigger := advanceCarrier_trigger_iff hv
  have hframe := advanceCarrier_eq s
  rcases execTick_cases raw s with ⟨hn, _⟩ | ⟨_, hc, e⟩ | ⟨_, hc, e⟩
  · exact absurd hr hn
  · refine ⟨_, e, hphase, hduty, htrigger, fun ht ha => ?_, fun _ => ?_, ?_⟩
    · simp [← advanceCarrier_trigger, ht, ha] at hc
    · rw [hframe]
      exact ⟨rfl, rfl, rfl⟩
    · rw [hframe]
  · obtain ⟨hf, ha⟩ := Bool.and_eq_true_iff.1 hc
    have hmissed := capture_missed_toNat raw (advanceCarrier s)
    rw [capture_eq] at e hmissed
    refine ⟨_, e, hphase, hduty, htrigger, fun _ _ => ⟨rfl, rfl, ?_⟩, fun hn => ?_, ?_⟩
    · rw [hmissed, hframe]
    · simp [advanceCarrier_trigger, hf, ha] at hn
    · rw [hframe]

end Sys2Proof.Machine

/-! PROOFS. The family of 42_sampler.md: the channel and the arming of the sampler, and when it captures and what
(R140 to R142). -/

namespace Sys2Proof.Machine

/-! ### Channel and arming (R140, R141) -/

theorem channelOf_eq (d : Word) : channelOf d = BitVec.ofNat 4 (d.toNat % 16) := by
  apply BitVec.eq_of_toNat_eq
  simp [channelOf]

/-- Only `CMD SMP_ARM` and `RESET` change the channel the sampler is bound to. -/
theorem smpCh_of_effect {i : Instr} {s t : State} (h : Effect i s t) (harm : i ≠ .cmdSmpArm) (hr : i ≠ .reset) :
    t.smpCh = s.smpCh := by
  cases h with
  | smpArm => exact absurd rfl harm
  | reset => exact absurd rfl hr
  | tick => rw [advanceCarrier_eq]
  | tickCapture => rw [capture_eq, advanceCarrier_eq]
  | _ => rfl

/-- There is no disarm short of `RESET`. -/
theorem smpArmed_of_effect {i : Instr} {s t : State} (h : Effect i s t) (hr : i ≠ .reset) (hs : s.smpArmed = true) :
    t.smpArmed = true := by
  cases h with
  | smpArm => rfl
  | reset => exact absurd rfl hr
  | tick =>
    rw [advanceCarrier_eq]
    exact hs
  | tickCapture =>
    rw [capture_eq, advanceCarrier_eq]
    exact hs
  | _ => exact hs

/-! ### When a sample is captured (R141, R142) -/

/-- With the sampler armed, the ticks that capture are those that fire the trigger. -/
theorem capturingTick_of_armed {s : State} (hs : s.smpArmed = true) (i : Instr) : capturingTick i s = firingTick i s := by
  rw [capturingTick, hs, Bool.and_true]

theorem capturingTick_tick {s : State} (raw : RawWord) (hrun : s.pwmState = .running) :
    capturingTick (.tick raw) s = (fires s && s.smpArmed) := by
  simp [capturingTick, firingTick, isTick, hrun]

/-- A tick that fires the trigger with the sampler armed captures its operand, on top of what the carrier does. -/
theorem tick_captures {raw : RawWord} {s t : State} (h : exec (.tick raw) s = .next t)
    (hc : capturingTick (.tick raw) s = true) : t = capture raw (advanceCarrier s) := by
  cases effect_of_exec h with
  | tickIdle _ _ hn => simp [capturingTick, firingTick, hn] at hc
  | tick _ _ hrun hf => simp [capturingTick_tick raw hrun, hf] at hc
  | tickCapture => rfl

/-- A stimulus that captures nothing leaves the last sample and the count of missed ones as they are: the sampler never
triggers itself. -/
theorem sample_of_effect_not_capturing {i : Instr} {s t : State} (h : Effect i s t) (hc : capturingTick i s = false)
    (hr : i ≠ .reset) : t.rawSample = s.rawSample ∧ t.missed = s.missed := by
  cases h with
  | reset => exact absurd rfl hr
  | tick =>
    rw [advanceCarrier_eq]
    exact ⟨rfl, rfl⟩
  | tickCapture raw _ hrun hf => simp [capturingTick_tick raw hrun, hf] at hc
  | _ => exact ⟨rfl, rfl⟩

/-- Settles O30: the two writes, and then, of any stimulus, who may change the channel, who may disarm, and that with the
sampler armed capturing is the same as firing. -/
theorem channelWriteAndSamplerArming : Obligations.ChannelWriteAndSamplerArming := by
  refine ⟨fun d s => ⟨hostWord_write_add 10 .channel rfl d, ?_⟩, rfl, fun _ => rfl, fun i s t h => ?_⟩
  · rw [← channelOf_eq]
    rfl
  · have heffect := effect_of_exec h
    refine ⟨smpCh_of_effect heffect, fun hs => ⟨fun hr => smpArmed_of_effect heffect hr hs, ?_, ?_⟩⟩
    · rintro raw rfl hf
      rw [tick_captures h ((capturingTick_of_armed hs _).trans hf), capture_eq]
      exact ⟨rfl, rfl⟩
    · intro hf hr
      exact sample_of_effect_not_capturing heffect ((capturingTick_of_armed hs i).trans hf) hr

/-! ### What a capture does (R142) -/

/-- The count of missed samples after a capture, as the word it is stored in. -/
theorem capture_missed (raw : RawWord) (s : State) :
    (capture raw s).missed
      = BitVec.ofNat 16 (if s.samplePending = true then min (s.missed.toNat + 1) 65535 else s.missed.toNat) := by
  rw [← capture_missed_toNat raw s, BitVec.ofNat_toNat, BitVec.setWidth_eq]

/-- Of two captures in a row the second finds the sample of the first still pending, and counts it. -/
theorem capture_capture_missed_toNat (r₁ r₂ : RawWord) {s : State} (hs : s.samplePending = false) :
    (capture r₂ (capture r₁ s)).missed.toNat = min (s.missed.toNat + 1) 65535 := by
  have hpending : (capture r₁ s).samplePending = true := rfl
  have hfirst : (capture r₁ s).missed.toNat = s.missed.toNat := by simp [capture_missed_toNat, hs]
  rw [capture_missed_toNat, if_pos hpending, hfirst]

/-- A new sample, or a new request, comes from a capture, but for what `RESET` clears. -/
theorem capturing_of_new_sample {i : Instr} {s t : State} (h : exec i s = .next t) (hr : i ≠ .reset)
    (hnew : t.rawSample ≠ s.rawSample ∨ (s.samplePending = false ∧ t.samplePending = true)) :
    capturingTick i s = true := by
  rcases hnew with hraw | ⟨hbefore, hafter⟩
  · by_contra hn
    obtain ⟨hkept, -⟩ := sample_of_effect_not_capturing (effect_of_exec h) (Bool.eq_false_iff.2 hn) hr
    exact hraw hkept
  · simpa [samplePending_after h hr, hbefore] using hafter

/-- Settles O31: a capture written out, twice in a row, and the only source of a new sample. -/
theorem captureKeepsTheLaterSample : Obligations.CaptureKeepsTheLaterSample := by
  refine ⟨fun raw s => ?_, fun r₁ r₂ s hs => ⟨rfl, capture_capture_missed_toNat r₁ r₂ hs, rfl⟩, fun i s t h hnew => ?_⟩
  · rw [← capture_missed raw s, capture_eq]
  · by_cases hr : i = .reset
    · exact .inr hr
    · exact .inl (capturing_of_new_sample h hr hnew)

end Sys2Proof.Machine

/-! PROOFS. The family of 43_engine.md: the ControllerState writes and arming (R150 to R155), when an update is requested
(R157), and the seven steps of the update in exact integers (R158, R159). -/

namespace Sys2Proof.Machine

/-! ### ControllerState writes (R150 to R154) -/

/-- Settles O35: the words are sums as in R84, and no write of the tuning interface has a condition. -/
theorem tuningWrites : Obligations.TuningWrites := fun d _ =>
  ⟨hostWord_write_add 2 .setpoint rfl d, hostWord_write_add 3 .kp rfl d, hostWord_write_add 4 .ki rfl d, rfl, rfl, rfl⟩

/-- Settles O36: both writes have the one condition that the engine is not armed yet. -/
theorem boundWrites : Obligations.BoundWrites := fun d _ =>
  ⟨hostWord_write_add 5 .outMin rfl d, hostWord_write_add 6 .outMax rfl d,
    fun hu => ⟨if_pos hu, if_pos hu⟩, fun hn => ⟨if_neg hn, if_neg hn⟩⟩

/-! ### Arming (R155) -/

theorem init_bits_eq_iff (f : InitFlags) : f.bits = 0b1111 ↔ f.all = true := by
  obtain ⟨kp, ki, outMin, outMax⟩ := f
  revert kp ki outMin outMax
  decide

/-- Settles O37: `canArm` is the condition of R155, with `INIT` read as its four bits. -/
theorem armNeedsGainsAndOrderedBounds : Obligations.ArmNeedsGainsAndOrderedBounds := by
  refine ⟨rfl, fun s => ?_⟩
  rw [init_bits_eq_iff, ← canArm_iff]
  exact ⟨fun h => if_pos h, fun h => if_neg h⟩

/-! ### The update request (R157, 60_exceptions.md R195) -/

/-- The states other than Uninitialized are the two in which R157 lets an update run. -/
theorem ne_uninitialized_iff (e : EngState) : e ≠ .uninitialized ↔ e = .armed ∨ e = .running := by
  cases e <;> decide

/-- Only `CMD ARM` takes the engine out of Uninitialized: an update needs an armed engine to run. -/
theorem engState_uninitialized_of_effect {i : Instr} {s t : State} (h : Effect i s t) (hi : i ≠ .cmdArm)
    (hs : s.engState = .uninitialized) : t.engState = .uninitialized := by
  cases h with
  | arm => exact absurd rfl hi
  | update _ hreq => exact absurd hs ((updateReq_iff s).1 hreq).2
  | tick =>
    rw [advanceCarrier_eq]
    exact hs
  | tickCapture =>
    rw [capture_eq, advanceCarrier_eq]
    exact hs
  | reset => rfl
  | _ => exact hs

theorem exec_update_of_updateReq {s : State} (h : updateReq s = true) :
    exec .update s = .next (applyUpdate Config.params s) := if_pos h

theorem exec_update_of_not_updateReq {s : State} (h : updateReq s = false) : exec .update s = .next s :=
  if_neg (Bool.eq_false_iff.1 h)

theorem updateReq_of_not_pending {s : State} (h : s.samplePending = false) : updateReq s = false := by
  rw [updateReq, h, Bool.false_and]

/-- After an `UPDATE` no update is requested: it has served the sample, or none was requested before it. -/
theorem updateReq_after_update {s t : State} (h : exec .update s = .next t) : updateReq t = false := by
  cases effect_of_exec h with
  | update => exact updateReq_of_not_pending rfl
  | updateIdle _ hn => exact hn

/-- An update that runs changes the state, since it clears the pending bit; one that does not run changes nothing. -/
theorem exec_update_eq_self_iff (s : State) : exec .update s = .next s ↔ updateReq s = false :=
  ⟨updateReq_after_update, exec_update_of_not_updateReq⟩

/-- A request is new because its sample is new, or because the engine has just been armed. -/
theorem cause_of_new_updateReq {i : Instr} {s t : State} (h : exec i s = .next t) (hbefore : updateReq s = false)
    (hafter : updateReq t = true) : capturingTick i s = true ∨ (i = .cmdArm ∧ s.samplePending = true) := by
  obtain ⟨hpending, hengine⟩ := (updateReq_iff t).1 hafter
  have hr : i ≠ .reset := by
    rintro rfl
    cases h
    exact hengine rfl
  cases hs : s.samplePending with
  | false => exact .inl (capturing_of_new_sample h hr (.inr ⟨hs, hpending⟩))
  | true =>
    have huninit : s.engState = .uninitialized := by
      by_contra hn
      simp [(updateReq_iff s).2 ⟨hs, hn⟩] at hbefore
    refine .inr ⟨?_, rfl⟩
    by_contra hi
    exact hengine (engState_uninitialized_of_effect (effect_of_exec h) hi huninit)

/-- Settles O39: the output is `updateReq`, an `UPDATE` keeps the state iff none is requested, and a request has only the
two causes. -/
theorem updateRunsOncePerCapturedSample : Obligations.UpdateRunsOncePerCapturedSample := by
  refine ⟨fun s => ⟨?_, exec_update_eq_self_iff s, fun _ => updateReq_after_update⟩,
    fun _ _ _ => cause_of_new_updateReq⟩
  rw [← ne_uninitialized_iff]
  exact updateReq_iff s

/-! ### The seven steps of the update (R158, R159) -/

/-- With ordered bounds it does not matter which bound is tested first (compare `clamp_fst`). -/
theorem clamp_fst_eq_max_min {lo hi : Int} (x : Int) (h : lo ≤ hi) : (clamp x lo hi).1 = max lo (min hi x) := by
  rw [clamp_fst h]
  omega

/-- The value of a clamp whatever the bounds are: the low one is tested first. -/
theorem clamp_fst_eq_ite (x lo hi : Int) : (clamp x lo hi).1 = if x < lo then lo else if hi < x then hi else x := by
  unfold clamp
  split_ifs <;> rfl

theorem clamp_snd_iff (x lo hi : Int) : (clamp x lo hi).2 = true ↔ x < lo ∨ hi < x := by
  simp [clamp_snd]

/-- Step 1: the sample of this hardware's calibration never saturates, the difference may. -/
theorem updateError_params (s : State) :
    updateError Config.params s = max (-32768) (min 32767 (s.setpoint.toInt - 32 * (s.rawSample.toNat : Int))) := by
  rw [updateError, toFixed_params, subSat, sat_16, clamp_fst_eq_max_min _ (by decide), Int.mul_comm]

theorem updateAccum_eq (p : Config.Params) (s : State) :
    updateAccum p s = clamp (s.integ.toInt + updateError p s * s.ki.toInt) (-2147483648) 2147483647 :=
  mac_eq_clamp _ _ _

theorem updateProp_eq (p : Config.Params) (s : State) :
    updateProp p s = max (-32768) (min 32767 ((updateError p s * s.kp.toInt + 16384) / 32768)) := by
  rw [updateProp, mul, rndShr_15, sat_16, clamp_fst_eq_max_min _ (by decide)]

theorem updateRaw_eq (p : Config.Params) (s : State) :
    updateRaw p s = updateProp p s + ((updateInteg p s).1 + 16384) / 32768 := by
  rw [updateRaw, fromAcc_eq]

theorem updateDuty_eq (p : Config.Params) (s : State) : updateDuty p s = clamp (updateRaw p s) (-32768) 32767 :=
  sat_16 _

theorem updateTicks_fst (p : Config.Params) (s : State) :
    (updateTicks p s).1 = (max (updateDuty p s).1 0).toNat * carrierRange s / 32768 := by
  have hfloor : (max (updateDuty p s).1 0).toNat = (updateDuty p s).1.toNat := by omega
  rw [updateTicks, toTicks_eq, hfloor]

/-- `SAT_I`: the accumulator saturated, or the clamp changed the value. -/
theorem updateSatI_iff (p : Config.Params) (s : State) :
    updateSatI p s = true ↔ (updateAccum p s).2 = true ∨ (updateInteg p s).2 = true :=
  Bool.or_eq_true_iff

/-- `SAT_D`: the duty saturated, or a negative duty was floored. -/
theorem updateSatD_iff (p : Config.Params) (s : State) :
    updateSatD p s = true ↔ (updateDuty p s).2 = true ∨ (updateDuty p s).1 < 0 := by
  rw [updateSatD, Bool.or_eq_true_iff, updateTicks, toTicks_floored_iff]

/-! ### The registers an update writes -/

/-- The clamped integrator fits its register even where the bounds are not in order: it is a scaled bound or the
saturated accumulator. -/
theorem updateInteg_range (p : Config.Params) (s : State) :
    -2147483648 ≤ (updateInteg p s).1 ∧ (updateInteg p s).1 ≤ 2147483647 := by
  have hmin := toInt_range s.outMin
  have hmax := toInt_range s.outMax
  have hacc : -2147483648 ≤ (updateAccum p s).1 ∧ (updateAccum p s).1 ≤ 2147483647 := clamp_mem (by decide)
  rw [updateInteg, clamp_fst_eq_ite, toAcc_eq, toAcc_eq]
  split_ifs <;> omega

theorem applyUpdate_integ_toInt_eq (p : Config.Params) (s : State) :
    (applyUpdate p s).integ.toInt = (updateInteg p s).1 := by
  obtain ⟨hlow, hhigh⟩ := updateInteg_range p s
  rw [applyUpdate_eq]
  exact toInt_ofInt_32 hlow hhigh

theorem applyUpdate_dutyOut_toInt (p : Config.Params) (s : State) :
    (applyUpdate p s).dutyOut.toInt = (updateDuty p s).1 := by
  obtain ⟨hlow, hhigh⟩ : -32768 ≤ (updateDuty p s).1 ∧ (updateDuty p s).1 ≤ 32767 := clamp_mem (by decide)
  rw [applyUpdate_eq]
  exact toInt_ofInt_16 hlow hhigh

theorem applyUpdate_dutyShadow_toNat (p : Config.Params) (s : State) :
    (applyUpdate p s).dutyShadow.toNat = min (updateTicks p s).1 65535 :=
  setDuty_toNat _ s

/-- Settles O40: each step of the model is the step of R158 in integers, and the registers and flags hold the results. -/
theorem updateFollowsThePiLaw : Obligations.UpdateFollowsThePiLaw := by
  refine ⟨rfl, fun s => ⟨fun hn => ?_, fun hpending hengine => ?_⟩⟩
  · rw [← updateReq_iff] at hn
    exact exec_update_of_not_updateReq (Bool.eq_false_iff.2 hn)
  · intro e sum acc lo hi i p ro d he hsum hacc hlo hhi hi_clamp hp hro hd
    have herror : updateError Config.params s = e := (updateError_params s).trans he.symm
    have haccum : updateAccum Config.params s = clamp sum (-2147483648) 2147483647 := by
      rw [updateAccum_eq, herror, hsum]
    have haccumFst : (updateAccum Config.params s).1 = acc := by
      rw [haccum, clamp_fst_eq_max_min _ (by decide), hacc]
    have hinteg : updateInteg Config.params s = clamp acc lo hi := by
      rw [updateInteg, haccumFst, toAcc_eq, toAcc_eq, Int.mul_comm, ← hlo, Int.mul_comm, ← hhi]
    have hintegFst : (updateInteg Config.params s).1 = i := by rw [hinteg, clamp_fst_eq_ite, hi_clamp]
    have hprop : updateProp Config.params s = p := by rw [updateProp_eq, herror, hp]
    have hraw : updateRaw Config.params s = ro := by rw [updateRaw_eq, hprop, hintegFst, hro]
    have hduty : updateDuty Config.params s = clamp ro (-32768) 32767 := by rw [updateDuty_eq, hraw]
    have hdutyFst : (updateDuty Config.params s).1 = d := by rw [hduty, clamp_fst_eq_max_min _ (by decide), hd]
    have hsatI : updateSatI Config.params s = true ↔ sum < -2147483648 ∨ 2147483647 < sum ∨ acc < lo ∨ hi < acc := by
      rw [updateSatI_iff, haccum, hinteg, clamp_snd_iff, clamp_snd_iff, or_assoc]
    have hsatD : updateSatD Config.params s = true ↔ ro < -32768 ∨ 32767 < ro ∨ d < 0 := by
      rw [updateSatD_iff, hdutyFst, hduty, clamp_snd_iff, or_assoc]
    refine ⟨applyUpdate Config.params s, exec_update_of_updateReq ((updateReq_iff s).2 ⟨hpending, hengine⟩),
      ?_, ?_, ?_, hsatI, hsatD, rfl, rfl, rfl, rfl, rfl⟩
    · rw [applyUpdate_integ_toInt_eq, hintegFst]
    · rw [applyUpdate_dutyOut_toInt, hdutyFst]
    · rw [applyUpdate_dutyShadow_toNat, updateTicks_fst, hdutyFst]

end Sys2Proof.Machine

/-! PROOFS. The family of 44_host_port.md: what a host read returns (R170), `CMD NOP` (R173), and the host writes that
belong to no component (R174 to R177). -/

namespace Sys2Proof.Machine

/-! ### Reads (R170) -/

/-- `STATUS` as the sum of its fields, the enumerations by their codes (10_state.md R35). -/
theorem statusWord_toNat (s : State) :
    (statusWord s).toNat = s.engState.code.toNat + s.pwmState.code.toNat * 4
      + s.smpArmed.toNat * 16 + s.samplePending.toNat * 32 + s.sat.toNat * 64 + s.satI.toNat * 128
      + s.satD.toNat * 256 + s.satSticky.toNat * 512 + s.cfgErr.toNat * 1024 + s.cmdRej.toNat * 2048
      + s.init.kp.toNat * 4096 + s.init.ki.toNat * 8192 + s.init.outMin.toNat * 16384
      + s.init.outMax.toNat * 32768 := by
  simp only [statusWord, InitFlags.bits, toNat_append_add, BitVec.toNat_ofBool]
  omega

/-- `PWMCFG` as the sum of its fields, by their codes (10_state.md R26). -/
theorem readHost_pwmcfg_toNat (s : State) :
    (readHost .pwmcfg s).toNat = s.mode.code.toNat + s.pol.code.toNat * 2 := by
  simp only [readHost, toNat_append_add, BitVec.toNat_ofNat]
  omega

/-- Padding a word with zeros above it keeps its number. -/
theorem zero_append_eq_setWidth (m : Nat) {n : Nat} (x : BitVec n) : 0#m ++ x = x.setWidth (m + n) := by
  apply BitVec.eq_of_toNat_eq
  rw [toNat_append_add, BitVec.toNat_setWidth_of_le (Nat.le_add_left n m), BitVec.toNat_ofNat, Nat.zero_mod,
    Nat.zero_mul, Nat.zero_add]

theorem readHost_channel (s : State) : readHost .channel s = s.channel.setWidth 16 :=
  zero_append_eq_setWidth 12 s.channel

theorem readHost_rawSample (s : State) : readHost .rawSample s = s.rawSample.setWidth 16 :=
  zero_append_eq_setWidth 6 s.rawSample

/-- The canonical word of a read has a `DATA` of 0 (R83). -/
theorem encode_rd (a : HostReg) : encode (.rd a) = a.addr.setWidth 24 <<< 16 :=
  (hostWord_read_add a 0).symm.trans (BitVec.add_zero _)

theorem exec_rd (a : HostReg) (s : State) : exec (.rd a) s = .next { s with readData := some (readHost a s) } := rfl

/-- Settles O13: a read only hands over `readHost`, and the words made of fields are the sums of those fields. -/
theorem readReturnsTheRegister : Obligations.ReadReturnsTheRegister := by
  intro s
  refine ⟨encode_rd, rfl, ⟨statusWord s, rfl, ?_⟩, rfl, rfl, rfl, rfl, rfl, rfl, ⟨readHost .pwmcfg s, rfl, ?_⟩, rfl,
    ?_, rfl, rfl, ?_, rfl, rfl⟩
  · rw [statusWord_toNat]
    cases s.engState <;> cases s.pwmState <;> rfl
  · rw [readHost_pwmcfg_toNat]
    cases s.mode <;> cases s.pol <;> rfl
  · rw [exec_rd, readHost_channel]
  · rw [exec_rd, readHost_rawSample]

/-! ### The command without effect (R173) -/

/-- Settles O14: the word is that of code 0, and the command has no other meaning than to complete. -/
theorem nopChangesNothing : Obligations.NopChangesNothing := ⟨rfl, fun _ => rfl⟩

/-! ### Clearing sticky flags (R175) -/

/-- A flag cleared by a bit of the mask, with the bit read as a digit of the mask's number. -/
theorem and_not_getLsbD (flag : Bool) {n : Nat} (d : BitVec n) (k : Nat) :
    (flag && !d.getLsbD k) = if d.toNat / 2 ^ k % 2 = 1 then false else flag := by
  rw [BitVec.getLsbD, Nat.testBit_eq_decide_div_mod_eq]
  split <;> simp [*]

/-- Settles O16: each sticky flag is cleared by its own bit of the mask, 9, 10 or 11. -/
theorem writeStatusClearsMarkedStickyBits : Obligations.WriteStatusClearsMarkedStickyBits := by
  intro d s
  refine ⟨hostWord_write_add 1 .status rfl d, ?_⟩
  have h9 := and_not_getLsbD s.satSticky d 9
  have h10 := and_not_getLsbD s.cfgErr d 10
  have h11 := and_not_getLsbD s.cmdRej d 11
  norm_num only at h9 h10 h11
  rw [← h9, ← h10, ← h11]
  rfl

/-! ### Writes that are always rejected (R174, R176, R177) -/

/-- Settles O15: a code from 6 on is reserved, the words are sums as in R84, and each form has one outcome. -/
theorem reservedWritesOnlyReject : Obligations.ReservedWritesOnlyReject := by
  obtain ⟨-, -, -, -, -, -, hreserved⟩ := commandWordsDecode
  exact fun d _ => ⟨hreserved d, hostWord_write_add 11 .dutyOut rfl d, hostWord_write_add 12 .dutyActive rfl d,
    hostWord_write_add 13 .rawSample rfl d, hostWord_write_add 14 .missed rfl d, hostWord_write_add 15 .rsvd rfl d,
    rfl, rfl, rfl, rfl, rfl, rfl⟩

end Sys2Proof.Machine

/-! PROOFS. The family of 60_exceptions.md: of each condition its causes, what it records, and what clears its record
(R191 to R194). -/

namespace Sys2Proof.Machine

/-! ### Clearing sticky bits (44_host_port.md R175, R220) -/

/-- Whether a stimulus clears the sticky bit at position `k` of `STATUS`: the host with a one at `k`, or `RESET`. -/
def clearsStickyBit (k : Nat) : Instr → Bool
  | .wrStatus d => d.getLsbD k
  | .reset => true
  | _ => false

theorem clearsStickyBit_iff (k : Nat) (i : Instr) :
    clearsStickyBit k i = true ↔ i = .reset ∨ ∃ d, i = .wrStatus d ∧ d.getLsbD k = true := by
  cases i with
  | wrStatus d =>
    refine ⟨fun h => .inr ⟨d, rfl, h⟩, ?_⟩
    rintro (hr | ⟨_, hw, h⟩)
    · cases hr
    · cases hw
      exact h
  | reset => exact iff_of_true rfl (.inl rfl)
  | _ => exact iff_of_false Bool.false_ne_true (by simp)

/-- A bit that a stimulus clears or keeps is not set by it. -/
theorem sticky_not_set {i : Instr} {k : Nat} {before after : Bool}
    (hkeep : after = (!clearsStickyBit k i && before)) (hbefore : before = false) : after = false := by
  rw [hkeep, hbefore, Bool.and_false]

/-- A bit that falls was cleared by the host or by `RESET`. -/
theorem sticky_cleared {i : Instr} {k : Nat} {before after : Bool}
    (hkeep : after = (!clearsStickyBit k i && before)) (hbefore : before = true) (hafter : after = false) :
    i = .reset ∨ ∃ d, i = .wrStatus d ∧ d.getLsbD k = true := by
  rw [← clearsStickyBit_iff]
  simpa [hbefore, hafter] using hkeep

/-! ### CommandRejected (R194) -/

/-- `CMD ARM` is rejected exactly when the condition of 43_engine.md R155 fails. -/
theorem rejectionCause_cmdArm (s : State) : rejectionCause .cmdArm s = !canArm s := by
  simp only [rejectionCause, canArm, InitFlags.all, Bool.and_assoc]

/-- Every stimulus is rejected, for one of the causes, or leaves `CMD_REJ` to the host and `RESET`. -/
theorem rejected_or_cmdRej_kept {i : Instr} {s t : State} (h : Effect i s t) :
    (rejectionCause i s = true ∧ t = raise .commandRejected s)
      ∨ (rejectionCause i s = false ∧ t.cmdRej = (!clearsStickyBit 11 i && s.cmdRej)) := by
  cases h with
  | cmdRsvd | wrDutyOut | wrDutyActive | wrRawSample | wrMissed | wrRsvd => exact .inl ⟨rfl, rfl⟩
  | wrPeriodRejected _ _ hg | wrPwmcfgRejected _ _ hg | wrDeadtimeRejected _ _ hg | configureRejected _ hg
  | startRejected _ hg | wrOutMinRejected _ _ hg | wrOutMaxRejected _ _ hg =>
    exact .inl ⟨decide_eq_true hg, rfl⟩
  | armRejected _ hg => exact .inl ⟨by rw [rejectionCause_cmdArm, hg, Bool.not_false], rfl⟩
  | wrPeriod _ _ hg | wrPwmcfg _ _ hg | wrDeadtime _ _ hg | configure _ hg | configureInvalid _ hg =>
    exact .inr ⟨decide_eq_false hg, rfl⟩
  | start _ hg | startInvalid _ hg | startRunning _ hg | wrOutMin _ _ hg | wrOutMax _ _ hg =>
    exact .inr ⟨by simp [rejectionCause, hg], rfl⟩
  | arm _ hg => exact .inr ⟨by rw [rejectionCause_cmdArm, hg, Bool.not_true], rfl⟩
  | wrStatus => exact .inr ⟨rfl, Bool.and_comm _ _⟩
  | tick =>
    rw [advanceCarrier_eq]
    exact .inr ⟨rfl, rfl⟩
  | tickCapture =>
    rw [capture_eq, advanceCarrier_eq]
    exact .inr ⟨rfl, rfl⟩
  | _ => exact .inr ⟨rfl, rfl⟩

/-- Settles O17: a stimulus with a cause is rejected, and one without can only clear the flag. -/
theorem rejectionHasExactlyItsCauses : Obligations.RejectionHasExactlyItsCauses := by
  intro i s t h
  rcases rejected_or_cmdRej_kept (effect_of_exec h) with ⟨hcause, rfl⟩ | ⟨hcause, hkeep⟩
  · exact ⟨fun _ => rfl, fun _ _ => hcause, fun _ hafter => by simp at hafter⟩
  · exact ⟨fun hc => by simp [hcause] at hc, fun hbefore hafter => by simp [sticky_not_set hkeep hbefore] at hafter,
      sticky_cleared hkeep⟩

/-! ### InvalidConfig (R191) -/

theorem not_running_of_invalidConfigCause {i : Instr} {s : State} (h : invalidConfigCause i s = true) :
    s.pwmState ≠ .running := by
  cases i with
  | cmdConfigure =>
    obtain ⟨hn, -⟩ := Bool.and_eq_true_iff.1 h
    exact of_decide_eq_true hn
  | cmdStart =>
    obtain ⟨hc, -⟩ := Bool.and_eq_true_iff.1 h
    simp [of_decide_eq_true hc]
  | _ => cases h

/-- Every stimulus finds an invalid configuration, for one of the causes, or leaves `CFG_ERR` to the host and `RESET`. -/
theorem invalidConfig_or_cfgErr_kept {i : Instr} {s t : State} (h : Effect i s t) :
    (invalidConfigCause i s = true ∧ t = raise .invalidConfig s)
      ∨ (invalidConfigCause i s = false ∧ t.cfgErr = (!clearsStickyBit 10 i && s.cfgErr)) := by
  cases h with
  | configureInvalid _ hg hv | startInvalid _ hg hv => exact .inl ⟨by simp [invalidConfigCause, hg, hv], rfl⟩
  | configure _ _ hv | start _ _ hv => exact .inr ⟨by simp [invalidConfigCause, hv], rfl⟩
  | configureRejected _ hg | startRunning _ hg | startRejected _ hg =>
    exact .inr ⟨by simp [invalidConfigCause, hg], rfl⟩
  | wrStatus => exact .inr ⟨rfl, Bool.and_comm _ _⟩
  | tick =>
    rw [advanceCarrier_eq]
    exact .inr ⟨rfl, rfl⟩
  | tickCapture =>
    rw [capture_eq, advanceCarrier_eq]
    exact .inr ⟨rfl, rfl⟩
  | _ => exact .inr ⟨rfl, rfl⟩

/-- From `Idle` only a `CMD CONFIGURE` that finds a valid configuration leads on: `CMD START` is rejected there and a
tick does not advance the carrier. -/
theorem configured_of_leaves_idle {i : Instr} {s t : State} (h : Effect i s t) (hidle : s.pwmState = .idle)
    (hleft : t.pwmState ≠ .idle) : i = .cmdConfigure ∧ validConfig Config.params s = true := by
  cases h with
  | configure _ _ hv => exact ⟨rfl, hv⟩
  | start _ hg => simp [hidle] at hg
  | tick _ _ hg | tickCapture _ _ hg => simp [hidle] at hg
  | configureInvalid | startInvalid | stop | reset => exact absurd rfl hleft
  | _ => exact absurd hidle hleft

/-- Settles O18: a cause makes the whole effect, without one the flag can only be cleared, and only a valid
`CMD CONFIGURE` leaves `Idle`. -/
theorem invalidConfigHasExactlyItsCauses : Obligations.InvalidConfigHasExactlyItsCauses := by
  intro i s t h
  have heffect := effect_of_exec h
  have hidle := configured_of_leaves_idle heffect
  rcases invalidConfig_or_cfgErr_kept heffect with ⟨hcause, rfl⟩ | ⟨hcause, hkeep⟩
  · exact ⟨fun _ => ⟨not_running_of_invalidConfigCause hcause, rfl⟩, fun _ _ => hcause,
      fun _ hafter => by simp at hafter, hidle⟩
  · exact ⟨fun hc => by simp [hcause] at hc, fun hbefore hafter => by simp [sticky_not_set hkeep hbefore] at hafter,
      sticky_cleared hkeep, hidle⟩

/-! ### MissedSample (R192) -/

/-- The carrier's own part of a tick shows in no status bit. -/
theorem statusWord_advanceCarrier (s : State) : statusWord (advanceCarrier s) = statusWord s := by
  rw [advanceCarrier_eq]
  rfl

/-- A capture over a pending sample changes no status bit: the pending bit is set already, and the count is no part of
`STATUS`. -/
theorem statusWord_capture_of_pending (raw : RawWord) {s : State} (hs : s.samplePending = true) :
    statusWord (capture raw s) = statusWord s := by
  rw [capture_eq]
  simp only [statusWord, hs]

/-- A tick that captures over a pending sample counts it, and replaces it. -/
theorem tick_misses {raw : RawWord} {s t : State} (h : exec (.tick raw) s = .next t)
    (hc : capturingTick (.tick raw) s = true) (hs : s.samplePending = true) :
    t.missed.toNat = min (s.missed.toNat + 1) 65535 ∧ t.rawSample = raw ∧ statusWord t = statusWord s := by
  have hpending : (advanceCarrier s).samplePending = true := by rw [advanceCarrier_eq, hs]
  have hmissed : (advanceCarrier s).missed = s.missed := by rw [advanceCarrier_eq]
  rw [tick_captures h hc]
  refine ⟨?_, ?_, ?_⟩
  · rw [capture_missed_toNat, if_pos hpending, hmissed]
  · rw [capture_eq]
  · rw [statusWord_capture_of_pending raw hpending, statusWord_advanceCarrier]

/-- While no sample is pending nothing counts a miss, a capture included. -/
theorem missed_of_effect_not_pending {i : Instr} {s t : State} (h : Effect i s t) (hs : s.samplePending = false)
    (hr : i ≠ .reset) : t.missed = s.missed := by
  cases h with
  | reset => exact absurd rfl hr
  | tick => rw [advanceCarrier_eq]
  | tickCapture =>
    rw [capture_eq, advanceCarrier_eq]
    simp [hs]
  | _ => rfl

/-- Settles O19: what a miss records, and that neither a stimulus without a capture nor one without a pending sample
changes the count. -/
theorem missedSampleIsCounted : Obligations.MissedSampleIsCounted := by
  intro i s t h
  refine ⟨?_, fun hchanged => or_iff_not_imp_left.2 fun hr => ⟨?_, ?_⟩⟩
  · rintro raw rfl
    exact tick_misses h
  · by_contra hc
    obtain ⟨-, hkept⟩ := sample_of_effect_not_capturing (effect_of_exec h) (Bool.eq_false_iff.2 hc) hr
    exact hchanged hkept
  · by_contra hs
    exact hchanged (missed_of_effect_not_pending (effect_of_exec h) (Bool.eq_false_iff.2 hs) hr)

/-! ### SaturationEngaged (R193) -/

/-- Every stimulus is an update that runs, or leaves the live bits to `RESET` and the sticky bit to the host and
`RESET`. -/
theorem updated_or_saturation_kept {i : Instr} {s t : State} (h : Effect i s t) :
    ((i = .update ∧ updateReq s = true) ∧ t = applyUpdate Config.params s)
      ∨ (¬(i = .update ∧ updateReq s = true)
        ∧ (i ≠ .reset → t.sat = s.sat ∧ t.satI = s.satI ∧ t.satD = s.satD)
        ∧ t.satSticky = (!clearsStickyBit 9 i && s.satSticky)) := by
  cases h with
  | update _ hreq => exact .inl ⟨⟨rfl, hreq⟩, rfl⟩
  | updateIdle _ hn => exact .inr ⟨by simp [hn], fun _ => ⟨rfl, rfl, rfl⟩, rfl⟩
  | wrStatus => exact .inr ⟨by simp, fun _ => ⟨rfl, rfl, rfl⟩, Bool.and_comm _ _⟩
  | reset => exact .inr ⟨by simp, fun hr => absurd rfl hr, rfl⟩
  | tick =>
    rw [advanceCarrier_eq]
    exact .inr ⟨by simp, fun _ => ⟨rfl, rfl, rfl⟩, rfl⟩
  | tickCapture =>
    rw [capture_eq, advanceCarrier_eq]
    exact .inr ⟨by simp, fun _ => ⟨rfl, rfl, rfl⟩, rfl⟩
  | _ => exact .inr ⟨by simp, fun _ => ⟨rfl, rfl, rfl⟩, rfl⟩

/-- The sticky bit after an update that runs: set if the update saturated, and never cleared (43_engine.md R159). -/
theorem applyUpdate_satSticky (p : Config.Params) (s : State) :
    (applyUpdate p s).satSticky = (s.satSticky || (applyUpdate p s).sat) := rfl

/-- Settles O41: an update that runs writes the live bits and can only set the sticky bit, and nothing else sets any. -/
theorem saturationIsNeverSuppressed : Obligations.SaturationIsNeverSuppressed := by
  intro i s t h
  rcases updated_or_saturation_kept (effect_of_exec h) with ⟨⟨rfl, hreq⟩, rfl⟩ | ⟨hnone, hlive, hkeep⟩
  · have hsticky := applyUpdate_satSticky Config.params s
    refine ⟨fun _ _ => ⟨rfl, rfl, rfl, hsticky⟩, fun hn => absurd ⟨rfl, hreq⟩ hn,
      fun hbefore hafter => ⟨rfl, hreq, ?_⟩, fun hbefore hafter => ?_⟩
    · rwa [hsticky, hbefore, Bool.false_or] at hafter
    · simp [hsticky, hbefore] at hafter
  · exact ⟨fun hi hreq => absurd ⟨hi, hreq⟩ hnone, fun _ => hlive,
      fun hbefore hafter => by simp [sticky_not_set hkeep hbefore] at hafter, sticky_cleared hkeep⟩

end Sys2Proof.Machine

/-! PROOFS. The family of 70_reset_and_hazards.md: the latency assumption `A_LAT` on a Running loop (R229). Of two firings
of the trigger the later one finds no sample waiting, because a rollover lies between them (41_waveform.md R133). -/

namespace Sys2Proof.Machine

/-! ### Sequences that keep the carrier (20_memory.md R67) -/

theorem keepsCarrier_cons (i : Instr) (is : List Instr) :
    keepsCarrier (i :: is) = true ↔ (i ≠ .cmdStop ∧ i ≠ .reset) ∧ keepsCarrier is = true := by
  simp [keepsCarrier]

theorem keepsCarrier_append (before rest : List Instr) :
    keepsCarrier (before ++ rest) = true ↔ keepsCarrier before = true ∧ keepsCarrier rest = true := by
  simp only [keepsCarrier, List.all_append, Bool.and_eq_true]

theorem execSeq_cons_eq {i : Instr} {s u : State} (is : List Instr) (hu : exec i (lowerOutputs s) = .next u) :
    execSeq (i :: is) s = execSeq is u := by
  rw [execSeq, hu]

theorem captureCount_cons {i : Instr} {s u : State} (is : List Instr) (hu : exec i (lowerOutputs s) = .next u) :
    captureCount (i :: is) s = (capturingTick i s).toNat + captureCount is u :=
  countWhere_cons capturingTick is hu

/-- The pending bit after a stimulus of a sequence: whether a sample waits does not depend on the one-step outputs. -/
theorem samplePending_after_lowered {i : Instr} {s u : State} (hu : exec i (lowerOutputs s) = .next u)
    (hreset : i ≠ .reset) : u.samplePending = (capturingTick i s || (s.samplePending && !servingUpdate i s)) :=
  samplePending_after (s := lowerOutputs s) hu hreset

/-- Short of `CMD STOP` and `RESET` a Running carrier stays Running, with the configuration it has. -/
theorem carrier_of_effect_running {i : Instr} {s t : State} (h : Effect i s t) (hrun : s.pwmState = .running)
    (hstop : i ≠ .cmdStop) (hreset : i ≠ .reset) :
    t.pwmState = .running ∧ t.mode = s.mode ∧ t.period = s.period := by
  cases h with
  | wrPeriod _ _ hn | wrPwmcfg _ _ hn | wrDeadtime _ _ hn | configure _ hn | configureInvalid _ hn =>
    exact absurd hrun hn
  | start _ hc | startInvalid _ hc => simp [hrun] at hc
  | stop => exact absurd rfl hstop
  | reset => exact absurd rfl hreset
  | tick =>
    rw [advanceCarrier_eq]
    exact ⟨hrun, rfl, rfl⟩
  | tickCapture =>
    rw [capture_eq, advanceCarrier_eq]
    exact ⟨hrun, rfl, rfl⟩
  | _ => exact ⟨hrun, rfl, rfl⟩

theorem carrierRange_of_execSeq {is : List Instr} {s t : State} (hrun : s.pwmState = .running)
    (hkeep : keepsCarrier is = true) (h : execSeq is s = .next t) : carrierRange t = carrierRange s := by
  induction is generalizing s with
  | nil =>
    cases h
    rfl
  | cons i is ih =>
    obtain ⟨u, hu, hrest⟩ := execSeq_cons h
    obtain ⟨⟨hstop, hreset⟩, hkeep⟩ := (keepsCarrier_cons i is).1 hkeep
    obtain ⟨hrun', hmode, hperiod⟩ := carrier_of_effect_running (effect_of_exec hu) hrun hstop hreset
    rw [ih hrun' hkeep hrest, carrierRange, hmode, hperiod]
    rfl

/-! ### A sample that waits (41_waveform.md R130, R133) -/

/-- A sample that waits in a center-aligned carrier was captured at the peak of this very period: the carrier has not
rolled over since. (In an edge-aligned carrier the firings are the rollovers.) -/
def SamplePastPeak (s : State) : Prop := s.samplePending = true → s.mode = .center → s.period.toNat ≤ s.phase.toNat

/-- The content of R133 that `A_LAT` needs: if no sample waits at a rollover, none waits at a firing. -/
theorem not_pending_of_fires {s : State} (hpeak : SamplePastPeak s)
    (hroll : rollsOver s = true → s.samplePending = false) (hf : fires s = true) : s.samplePending = false := by
  rcases nextPhase_cases s with ⟨hr, -⟩ | ⟨hr, hnext⟩
  · exact hroll hr
  · rcases fires_cases s with ⟨-, hedge⟩ | ⟨hm, hcenter⟩
    · simp [hedge, hr] at hf
    · rw [hcenter, decide_eq_true_eq] at hf
      by_contra hn
      have hphase := hpeak (by simpa using hn) hm
      omega

/-- While a sample waits, a tick moves the phase on from the peak. -/
theorem samplePastPeak_advanceCarrier {s : State} (hv : validConfig Config.params s = true) (hpeak : SamplePastPeak s)
    (hroll : rollsOver s = true → s.samplePending = false) : SamplePastPeak (advanceCarrier s) := by
  intro hp hm
  rw [advanceCarrier_phase_toNat hv, advanceCarrier_eq]
  rw [advanceCarrier_eq] at hp hm
  have hbefore := hpeak hp hm
  rcases nextPhase_cases s with ⟨hr, -⟩ | ⟨-, hnext⟩
  · exact absurd (hp.symm.trans (hroll hr)) (by decide)
  · rw [hnext]
    exact Nat.le_succ_of_le hbefore

/-- A center-aligned carrier captures at the peak. -/
theorem samplePastPeak_capture (raw : RawWord) {s : State} (hv : validConfig Config.params s = true)
    (hf : fires s = true) : SamplePastPeak (capture raw (advanceCarrier s)) := by
  intro _ hm
  have hphase : (capture raw (advanceCarrier s)).phase.toNat = nextPhase s := by
    rw [capture_eq]
    exact advanceCarrier_phase_toNat hv
  rw [hphase]
  rw [capture_eq, advanceCarrier_eq] at hm ⊢
  rcases fires_cases s with ⟨he, -⟩ | ⟨-, hcenter⟩
  · exact absurd (he.symm.trans hm) (by decide)
  · rw [hcenter, decide_eq_true_eq] at hf
    rw [hf]

/-- Only a tick moves the phase of a Running carrier, and only a capture makes a sample wait. -/
theorem samplePastPeak_of_effect {i : Instr} {s t : State} (h : Effect i s t) (hinv : CarrierInv s)
    (hrun : s.pwmState = .running) (hstop : i ≠ .cmdStop) (hreset : i ≠ .reset) (hpeak : SamplePastPeak s)
    (hroll : rolloverTick i s = true → s.samplePending = false) : SamplePastPeak t := by
  obtain ⟨hv, -, -⟩ := hinv.1 hrun
  cases h with
  | wrPeriod _ _ hn | wrPwmcfg _ _ hn | wrDeadtime _ _ hn | configure _ hn | configureInvalid _ hn =>
    exact absurd hrun hn
  | start _ hc | startInvalid _ hc => simp [hrun] at hc
  | stop => exact absurd rfl hstop
  | reset => exact absurd rfl hreset
  | update => exact fun hp => by cases hp
  | tick raw => exact samplePastPeak_advanceCarrier hv hpeak fun hr => hroll (by simp [rolloverTick, isTick, hrun, hr])
  | tickCapture raw _ _ hc => exact samplePastPeak_capture raw hv (Bool.and_eq_true_iff.1 hc).1
  | _ => exact hpeak

/-! ### The latency assumption, kept along a sequence (R229) -/

/-- A Running carrier with the stimuli still to run, which neither stop it nor let a sample wait at a rollover. Since at
most one sample is owed, the number owed is the pending bit. -/
structure ServedInTime (is : List Instr) (s : State) : Prop where
  carrier : CarrierInv s
  running : s.pwmState = .running
  keeps : keepsCarrier is = true
  served : servedBy rolloverTick s.samplePending.toNat is s
  pastPeak : SamplePastPeak s

theorem servedInTime_of_aLat {is : List Instr} {s : State} (hinv : CarrierInv s) (hrun : s.pwmState = .running)
    (hnone : s.samplePending = false) (hkeep : keepsCarrier is = true) (hlat : ALat is s) : ServedInTime is s where
  carrier := hinv
  running := hrun
  keeps := hkeep
  served := by
    rw [hnone]
    exact hlat
  pastPeak := fun hp => by simp [hnone] at hp

/-- No sample waits at a rollover. -/
theorem ServedInTime.not_pending_of_rollover {i : Instr} {is : List Instr} {s : State} (h : ServedInTime (i :: is) s)
    (hr : rolloverTick i s = true) : s.samplePending = false := by
  obtain ⟨u, hu⟩ := exec_answers i (lowerOutputs s)
  obtain ⟨howed, -⟩ := servedBy_cons h.served hu
  simpa using howed hr

/-- No sample waits at a capture. -/
theorem ServedInTime.not_pending_of_capture {i : Instr} {is : List Instr} {s : State} (h : ServedInTime (i :: is) s)
    (hc : capturingTick i s = true) : s.samplePending = false := by
  have hroll := h.not_pending_of_rollover
  simp only [capturingTick, firingTick, rolloverTick, Bool.and_eq_true, decide_eq_true_eq] at hc hroll
  obtain ⟨⟨⟨htick, hrun⟩, hf⟩, -⟩ := hc
  exact not_pending_of_fires h.pastPeak (fun hr => hroll ⟨⟨htick, hrun⟩, hr⟩) hf

/-- The number of samples owed stays the pending bit as long as no capture finds a sample waiting. -/
theorem owedAfter_pending {i : Instr} {s t : State} (hu : exec i (lowerOutputs s) = .next t) (hreset : i ≠ .reset)
    (hcap : capturingTick i s = true → s.samplePending = false) :
    owedAfter s.samplePending.toNat i s = t.samplePending.toNat := by
  have hafter := samplePending_after_lowered hu hreset
  unfold owedAfter
  cases hc : capturingTick i s with
  | true => simp [hafter, hc, hcap hc]
  | false =>
    cases hs : servingUpdate i s <;> cases hp : s.samplePending <;> simp [hafter, hc, hs, hp]

theorem ServedInTime.tail {i : Instr} {is : List Instr} {s u : State} (h : ServedInTime (i :: is) s)
    (hu : exec i (lowerOutputs s) = .next u) : ServedInTime is u := by
  obtain ⟨⟨hstop, hreset⟩, hkeep⟩ := (keepsCarrier_cons i is).1 h.keeps
  obtain ⟨-, hserved⟩ := servedBy_cons h.served hu
  have heffect := effect_of_exec hu
  rw [owedAfter_pending hu hreset h.not_pending_of_capture] at hserved
  exact {
    carrier := carrierInv_of_effect heffect h.carrier
    running := (carrier_of_effect_running heffect h.running hstop hreset).1
    keeps := hkeep
    served := hserved
    pastPeak := samplePastPeak_of_effect heffect h.carrier h.running hstop hreset h.pastPeak h.not_pending_of_rollover }

theorem ServedInTime.of_append {before rest : List Instr} {s u : State} (h : ServedInTime (before ++ rest) s)
    (hu : execSeq before s = .next u) : ServedInTime rest u := by
  induction before generalizing s with
  | nil =>
    cases hu
    exact h
  | cons i before ih =>
    obtain ⟨v, hv, hrest⟩ := execSeq_cons hu
    exact ih (h.tail hv) hrest

/-! ### No sample is missed -/

/-- A stimulus counts no miss: if it captures, no sample waits, and if it does not, it leaves the count alone. -/
theorem ServedInTime.missed_head {i : Instr} {is : List Instr} {s u : State} (h : ServedInTime (i :: is) s)
    (hu : exec i (lowerOutputs s) = .next u) : u.missed = s.missed := by
  obtain ⟨⟨-, hreset⟩, -⟩ := (keepsCarrier_cons i is).1 h.keeps
  have heffect := effect_of_exec hu
  cases hc : capturingTick i s with
  | true => exact missed_of_effect_not_pending (s := lowerOutputs s) heffect (h.not_pending_of_capture hc) hreset
  | false => exact (sample_of_effect_not_capturing heffect hc hreset).2

theorem ServedInTime.missed_eq {is : List Instr} {s t : State} (h : ServedInTime is s)
    (ht : execSeq is s = .next t) : t.missed = s.missed := by
  induction is generalizing s with
  | nil =>
    cases ht
    rfl
  | cons i is ih =>
    obtain ⟨u, hu, hrest⟩ := execSeq_cons ht
    exact (ih (h.tail hu) hrest).trans (h.missed_head hu)

/-- Settles O33: along the sequence no sample waits at a rollover, hence none at a firing, and so no capture counts one. -/
theorem latencyAssumptionPreventsMisses : Obligations.LatencyAssumptionPreventsMisses := by
  intro is s t hinv hrun _ hnone hkeep hlat ht
  exact (servedInTime_of_aLat hinv.1 hrun hnone hkeep hlat).missed_eq ht

/-! ### The update that served the latest sample (43_engine.md R157, R158) -/

/-- Only an update that runs writes `DUTY_SHADOW`. -/
theorem dutyShadow_of_effect {i : Instr} {s t : State} (h : Effect i s t) (hs : servingUpdate i s = false)
    (hreset : i ≠ .reset) : t.dutyShadow = s.dutyShadow := by
  cases h with
  | update _ hreq => simp [servingUpdate, hreq] at hs
  | reset => exact absurd rfl hreset
  | tick => rw [advanceCarrier_eq]
  | tickCapture => rw [capture_eq, advanceCarrier_eq]
  | _ => rfl

/-- While no sample waits and none is captured, no update runs, and the last sample and its duty stay. -/
theorem sample_and_duty_of_no_capture {is : List Instr} {s t : State} (hkeep : keepsCarrier is = true)
    (hnone : s.samplePending = false) (hcount : captureCount is s = 0) (ht : execSeq is s = .next t) :
    t.rawSample = s.rawSample ∧ t.dutyShadow = s.dutyShadow := by
  induction is generalizing s with
  | nil =>
    cases ht
    exact ⟨rfl, rfl⟩
  | cons i is ih =>
    obtain ⟨u, hu, hrest⟩ := execSeq_cons ht
    obtain ⟨⟨-, hreset⟩, hkeep⟩ := (keepsCarrier_cons i is).1 hkeep
    rw [captureCount_cons is hu, Nat.add_eq_zero_iff, Bool.toNat_eq_zero] at hcount
    obtain ⟨hc, hcount⟩ := hcount
    have heffect := effect_of_exec hu
    have hpending := samplePending_after_lowered hu hreset
    rw [hc, hnone, Bool.false_and, Bool.or_false] at hpending
    have hserving : servingUpdate i s = false := by
      rw [servingUpdate, updateReq_of_not_pending hnone, Bool.and_false]
    obtain ⟨hraw, -⟩ := sample_of_effect_not_capturing heffect hc hreset
    have hshadow := dutyShadow_of_effect heffect hserving hreset
    obtain ⟨hraw', hshadow'⟩ := ih hkeep hpending hcount hrest
    exact ⟨hraw'.trans hraw, hshadow'.trans hshadow⟩

/-- Where no sample waits any more but one did before, an update served the latest one; since then nothing was captured,
and its sample and its duty stand. -/
theorem exists_update_of_latest_sample {before : List Instr} {s u : State} (hkeep : keepsCarrier before = true)
    (hu : execSeq before s = .next u) (hnone : u.samplePending = false)
    (hsome : s.samplePending = true ∨ 0 < captureCount before s) :
    ∃ b₁ b₂ w w', before = b₁ ++ .update :: b₂ ∧ execSeq b₁ s = .next w ∧ updateReq w = true
      ∧ exec .update (lowerOutputs w) = .next w' ∧ captureCount b₂ w' = 0
      ∧ w.rawSample = u.rawSample ∧ u.dutyShadow = w'.dutyShadow := by
  induction before generalizing s with
  | nil =>
    cases hu
    rcases hsome with hp | hp
    · exact absurd (hp.symm.trans hnone) (by decide)
    · exact absurd hp (Nat.lt_irrefl 0)
  | cons i before ih =>
    obtain ⟨v, hv, hrest⟩ := execSeq_cons hu
    obtain ⟨⟨-, hreset⟩, hkeepRest⟩ := (keepsCarrier_cons i before).1 hkeep
    by_cases hlater : v.samplePending = true ∨ 0 < captureCount before v
    · obtain ⟨b₁, b₂, w, w', rfl, hw, hserved⟩ := ih hkeepRest hrest hlater
      exact ⟨i :: b₁, b₂, w, w', rfl, (execSeq_cons_eq b₁ hv).trans hw, hserved⟩
    · simp only [not_or, Bool.not_eq_true, Nat.pos_iff_ne_zero, not_not] at hlater
      obtain ⟨hvnone, hcount⟩ := hlater
      have hpending := samplePending_after_lowered hv hreset
      rw [hvnone, eq_comm, Bool.or_eq_false_iff] at hpending
      obtain ⟨hc, hserved⟩ := hpending
      have hp : s.samplePending = true := by simpa [captureCount_cons before hv, hc, hcount] using hsome
      have hserving : servingUpdate i s = true := by simpa [hp] using hserved
      obtain ⟨hi, hreq⟩ := Bool.and_eq_true_iff.1 hserving
      cases of_decide_eq_true hi
      obtain ⟨hraw, -⟩ := sample_of_effect_not_capturing (effect_of_exec hv) hc hreset
      obtain ⟨hraw', hshadow⟩ := sample_and_duty_of_no_capture hkeepRest hvnone hcount hrest
      exact ⟨[], before, s, v, rfl, rfl, hreq, hv, hcount, (hraw'.trans hraw).symm, hshadow⟩

/-! ### The latch at the rollover (41_waveform.md R129, 40_fpuq.md R109) -/

/-- A rollover latches the shadowed duty, cut to the carrier range. -/
theorem dutyActive_of_rollover {i : Instr} {s t : State} (h : exec i s = .next t) (hr : rolloverTick i s = true) :
    t.dutyActive.toNat = min s.dutyShadow.toNat (carrierRange s) := by
  simp only [rolloverTick, Bool.and_eq_true, decide_eq_true_eq] at hr
  obtain ⟨⟨htick, hrun⟩, hroll⟩ := hr
  cases i with
  | tick raw =>
    cases (execTick_running raw s hrun).symm.trans h
    rw [hroll]
    exact latchDuty_toNat s
  | _ => cases htick

theorem updateTicks_lt (p : Config.Params) {s : State} (hrange : 0 < carrierRange s) :
    (updateTicks p s).1 < carrierRange s := by
  have hduty : (updateDuty p s).1 ≤ 32767 := (clamp_mem (by decide)).2
  exact toTicks_lt hduty hrange

/-- Neither the shadow register nor the latch cuts the tick count of an update under a valid range. -/
theorem latch_of_update (p : Config.Params) {s : State} (hlow : 1 ≤ carrierRange s) (hhigh : carrierRange s ≤ 65534) :
    min (applyUpdate p s).dutyShadow.toNat (carrierRange s) = (updateTicks p s).1 := by
  have hlt := updateTicks_lt p hlow
  rw [applyUpdate_dutyShadow_toNat]
  omega

/-- Settles O59: no sample waits at the rollover, so an update served the latest one, and the range that its tick count
is below is the range of the rollover. -/
theorem latencyAssumptionLatchesTheDutyInTime : Obligations.LatencyAssumptionLatchesTheDutyInTime := by
  intro is s t hinv hrun _ hnone hkeep hlat _ before after i u his hu hroll
  subst his
  have hatRollover := (servedInTime_of_aLat hinv.1 hrun hnone hkeep hlat).of_append hu
  have hunone := hatRollover.not_pending_of_rollover hroll
  obtain ⟨v, hv⟩ := exec_answers i (lowerOutputs u)
  have hlatch : v.dutyActive.toNat = min u.dutyShadow.toNat (carrierRange u) :=
    dutyActive_of_rollover (s := lowerOutputs u) hv hroll
  refine ⟨hunone, v, hv, hlatch, fun hcount => ?_⟩
  obtain ⟨hkeepBefore, -⟩ := (keepsCarrier_append before (i :: after)).1 hkeep
  obtain ⟨b₁, b₂, w, w', rfl, hw, hreq, hw', hnocap, hraw, hshadow⟩ :=
    exists_update_of_latest_sample hkeepBefore hu hunone (.inr hcount)
  refine ⟨b₁, b₂, w, w', rfl, hw, hreq, hw', hnocap, hraw, hshadow, ?_⟩
  obtain ⟨hkeepToUpdate, -⟩ := (keepsCarrier_append b₁ (.update :: b₂)).1 hkeepBefore
  have hrange : carrierRange u = carrierRange w :=
    (carrierRange_of_execSeq hrun hkeepBefore hu).trans (carrierRange_of_execSeq hrun hkeepToUpdate hw).symm
  obtain ⟨hvalid, -, -⟩ := hatRollover.carrier.1 hatRollover.running
  obtain ⟨hlow, hhigh⟩ := carrierRange_valid hvalid
  cases (exec_update_of_updateReq hreq (s := lowerOutputs w)).symm.trans hw'
  rw [hlatch, hshadow, hrange]
  rw [hrange] at hlow hhigh
  exact latch_of_update Config.params (s := lowerOutputs w) hlow hhigh

end Sys2Proof.Machine

/-! PROOFS. The encoding as a whole (30_encoding.md R87, R88): decoder and encoder are inverse to each other, and what the
decoder answers on each of the 2^24 words. -/

namespace Sys2Proof

/-! ### Decoding what was encoded -/

/-- A command is a write to `CMD`, and every other host write has a register of its own, so the canonical word of a
stimulus is a word of its format. -/
theorem decode_encode {i : Instr} (h : i.wellFormed = true) : decode (encode i) = .ok i := by
  cases i with
  | rd a => exact decode_read a 0
  | cmdNop | cmdConfigure | cmdStart | cmdStop | cmdArm | cmdSmpArm => exact decode_write .cmd _
  | cmdRsvd code =>
    have hcode : decodeWrite .cmd code = .cmdRsvd code := decodeCommand_reserved code h
    exact (decode_write .cmd code).trans (congrArg _ hcode)
  | wrStatus d | wrSetpoint d | wrKp d | wrKi d | wrOutMin d | wrOutMax d | wrPeriod d | wrPwmcfg d | wrDeadtime d
  | wrChannel d | wrDutyOut d | wrDutyActive d | wrRawSample d | wrMissed d | wrRsvd d => exact decode_write _ d
  | tick raw => exact decode_tick raw
  | update => exact decode_update
  | reset => exact decode_reset

/-- Settles O1, format by format. -/
theorem decodeInvertsEncode : Obligations.DecodeInvertsEncode := fun _ => decode_encode

/-! ### Encoding what was decoded -/

/-- The word of the read that a word decodes to is the word without its `DATA`. -/
theorem encode_rd_of_fields {w : StimulusWord} (hk : wordKind w = 0#2) (hz : wordEv w = 0#2) :
    encode (.rd (HostReg.ofAddr (wordAddr w))) = w &&& 0xFF0000 := by
  conv_rhs => rw [← hostWord_fields w hz, Laws.OpcodeRow.hostWord_masked, hk]
  rfl

/-- The canonical word of an event is the word it was decoded from. -/
theorem eventWord_of_fields {w : StimulusWord} {ev : BitVec 2} {raw : RawWord} (hk : wordKind w = 2#2)
    (hp : wordPad w = 0#10) (he : wordEv w = ev) (hr : wordRaw w = raw) : eventWord ev raw = w := by
  rw [← he, ← hr]
  exact eventWord_fields w hk hp

/-- Settles O2, by the formats of a word that decodes: a word is the word of its own fields. -/
theorem encodeInvertsDecodeButForReadData : Obligations.EncodeInvertsDecodeButForReadData := by
  intro w i h
  have hword : wordKind w ≠ 0#2 → (if wordKind w = 0#2 then w &&& 0xFF0000 else w) = w := fun hn => if_neg hn
  rcases decode_ok_cases h with ⟨hk, hz, rfl⟩ | ⟨hk, hz, rfl⟩ | ⟨hk, hp, he, rfl⟩ | ⟨hk, hp, he, hr, rfl⟩
    | ⟨hk, hp, he, hr, rfl⟩
  · rw [if_pos hk]
    exact ⟨rfl, encode_rd_of_fields hk hz⟩
  · obtain ⟨hwf, hencode⟩ := encode_decodeWrite (HostReg.ofAddr (wordAddr w)) (wordData w)
    have hfields := hostWord_fields w hz
    rw [hk] at hfields
    rw [hword (by simp [hk])]
    exact ⟨hwf, hencode.trans hfields⟩
  · rw [hword (by simp [hk])]
    exact ⟨rfl, eventWord_of_fields hk hp he rfl⟩
  · rw [hword (by simp [hk])]
    exact ⟨rfl, eventWord_of_fields hk hp he hr⟩
  · rw [hword (by simp [hk])]
    exact ⟨rfl, eventWord_of_fields hk hp he hr⟩

/-! ### The map of the words by their numbers -/

/-- A number with `Z2` zero is that of the word of format H with its digits. -/
theorem hostWord_of_toNat {w : StimulusWord} (k : BitVec 2) (a : HostAddr)
    (h : w.toNat / 0x10000 = k.toNat * 64 + a.toNat) :
    w = hostWord k (HostReg.ofAddr a) (BitVec.ofNat 16 (w.toNat % 0x10000)) := by
  apply BitVec.eq_of_toNat_eq
  rw [hostWord_toNat, addr_ofAddr, BitVec.toNat_ofNat]
  omega

theorem eventWord_of_toNat {w : StimulusWord} (ev : BitVec 2) (raw : RawWord)
    (h : w.toNat = 0x800000 + ev.toNat * 0x100000 + raw.toNat) : w = eventWord ev raw := by
  apply BitVec.eq_of_toNat_eq
  rw [eventWord_toNat]
  exact h

theorem decode_of_read_number {w : StimulusWord} (h : w.toNat < 0x100000) :
    decode w = .ok (.rd (HostReg.ofAddr (BitVec.ofNat 4 (w.toNat / 0x10000)))) := by
  have hdigits : w.toNat / 0x10000 = (0#2).toNat * 64 + (BitVec.ofNat 4 (w.toNat / 0x10000)).toNat := by
    simp only [BitVec.toNat_ofNat]
    omega
  exact (congrArg decode (hostWord_of_toNat 0#2 _ hdigits)).trans (decode_read _ _)

theorem decode_of_write_number {w : StimulusWord} (hlow : 0x400000 ≤ w.toNat) (hhigh : w.toNat < 0x500000) :
    decode w = .ok (decodeWrite (HostReg.ofAddr (BitVec.ofNat 4 ((w.toNat - 0x400000) / 0x10000)))
      (BitVec.ofNat 16 (w.toNat % 0x10000))) := by
  have hdigits : w.toNat / 0x10000
      = (1#2).toNat * 64 + (BitVec.ofNat 4 ((w.toNat - 0x400000) / 0x10000)).toNat := by
    simp only [BitVec.toNat_ofNat]
    omega
  exact (congrArg decode (hostWord_of_toNat 1#2 _ hdigits)).trans (decode_write _ _)

theorem decode_of_tick_number {w : StimulusWord} (hlow : 0x800000 ≤ w.toNat) (hhigh : w.toNat < 0x800400) :
    decode w = .ok (.tick (BitVec.ofNat 10 (w.toNat - 0x800000))) := by
  have hdigits : w.toNat = 0x800000 + (0#2).toNat * 0x100000 + (BitVec.ofNat 10 (w.toNat - 0x800000)).toNat := by
    simp only [BitVec.toNat_ofNat]
    omega
  exact (congrArg decode (eventWord_of_toNat 0#2 _ hdigits)).trans (decode_tick _)

theorem decode_of_update_number {w : StimulusWord} (h : w.toNat = 0x900000) : decode w = .ok .update := by
  rw [eventWord_of_toNat 1#2 0#10 h]
  exact decode_update

theorem decode_of_reset_number {w : StimulusWord} (h : w.toNat = 0xA00000) : decode w = .ok .reset := by
  rw [eventWord_of_toNat 2#2 0#10 h]
  exact decode_reset

/-- The numbers of the words that decode: the fields that R87 asks to be zero are zero. -/
theorem number_of_decode_ok {w : StimulusWord} {i : Instr} (h : decode w = .ok i) :
    w.toNat < 0x100000 ∨ (0x400000 ≤ w.toNat ∧ w.toNat < 0x500000) ∨ (0x800000 ≤ w.toNat ∧ w.toNat < 0x800400)
      ∨ w.toNat = 0x900000 ∨ w.toNat = 0xA00000 := by
  have hkind := wordKind_toNat w
  have hev := wordEv_toNat w
  have hpad := wordPad_toNat w
  have hraw := wordRaw_toNat w
  rcases decode_ok_cases h with ⟨hk, hz, -⟩ | ⟨hk, hz, -⟩ | ⟨hk, hp, he, -⟩ | ⟨hk, hp, he, hr, -⟩
    | ⟨hk, hp, he, hr, -⟩
  · simp only [hk, hz, BitVec.toNat_ofNat] at hkind hev
    omega
  · simp only [hk, hz, BitVec.toNat_ofNat] at hkind hev
    omega
  · simp only [hk, hp, he, BitVec.toNat_ofNat] at hkind hev hpad
    omega
  · simp only [hk, hp, he, hr, BitVec.toNat_ofNat] at hkind hev hpad hraw
    omega
  · simp only [hk, hp, he, hr, BitVec.toNat_ofNat] at hkind hev hpad hraw
    omega

theorem exists_error_of_not_ok {w : StimulusWord} (h : ∀ i, decode w ≠ .ok i) : ∃ why, decode w = .error why := by
  cases hd : decode w with
  | ok i => exact absurd hd (h i)
  | error why => exact ⟨why, rfl⟩

/-- Settles O3: in the five ranges that decode a word is the word of its digits, and between them lie the ranges that do
not. -/
theorem decoderMapsTheWordSpace : Obligations.DecoderMapsTheWordSpace := by
  intro w
  refine ⟨decode_of_read_number, ?_, decode_of_write_number, ?_, decode_of_tick_number, ?_, decode_of_update_number, ?_,
    decode_of_reset_number, ?_⟩
  all_goals
    intros
    refine exists_error_of_not_ok fun i hi => ?_
    have hnumber := number_of_decode_ok hi
    omega

/-- Settles O8: eight of the words are of the formats above, two break the padding or the kind. -/
theorem writtenOutWordsDecode : Obligations.WrittenOutWordsDecode :=
  ⟨decode_read .status 0xABCD, decode_write .kp 0x4000, decode_write .pwmcfg 0xFFFF, decode_write .cmd 0x0101,
    decode_write .cmd 5, decode_tick 1023, decode_update, decode_reset, rfl, rfl⟩

end Sys2Proof

/-! PROOFS. The step (00_scope.md R5, 20_memory.md R67): what a step does with the next word, and that a list of stimuli
runs in order. No stimulus reads or changes the stimuli still to come (log 1). -/

namespace Sys2Proof.Machine

/-! ### The three answers of a step -/

theorem step_of_no_stimulus {s : State} (hq : s.stimuli = []) : step s = .next (lowerOutputs s) := by
  rw [step, hq]

theorem step_of_decode_ok {s : State} {w : StimulusWord} {rest : List StimulusWord} {i : Instr}
    (hq : s.stimuli = w :: rest) (hd : decode w = .ok i) : step s = exec i (accept rest s) := by
  simp only [step, hq, hd]

theorem step_of_decode_error {s : State} {w : StimulusWord} {rest : List StimulusWord} {why : InvalidWord}
    (hq : s.stimuli = w :: rest) (hd : decode w = .error why) : step s = .refused (.invalidStimulus why) := by
  simp only [step, hq, hd]

/-- Settles O9: accepting a word is what the statement writes out. -/
theorem stepRunsTheArrivedStimulus : Obligations.StepRunsTheArrivedStimulus :=
  fun _ _ _ _ => step_of_decode_ok

/-- Settles O11: with no stimulus only the one-step outputs end. -/
theorem stepWithoutStimulusIdles : Obligations.StepWithoutStimulusIdles := fun _ => step_of_no_stimulus

/-- A step completes, unless the next word is `INVALID`. -/
theorem step_next_or_invalid (s : State) :
    (∃ t, step s = .next t) ∨ ∃ w rest why, s.stimuli = w :: rest ∧ decode w = .error why := by
  cases hq : s.stimuli with
  | nil => exact .inl ⟨_, step_of_no_stimulus hq⟩
  | cons w rest =>
    cases hd : decode w with
    | error why => exact .inr ⟨w, rest, why, rfl, hd⟩
    | ok i =>
      obtain ⟨t, ht⟩ := exec_answers i (accept rest s)
      exact .inl ⟨t, (step_of_decode_ok hq hd).trans ht⟩

/-- Settles O10: a step completes or its word is `INVALID`, and an `INVALID` word is refused with its reason. -/
theorem stepRefusesExactlyInvalidWords : Obligations.StepRefusesExactlyInvalidWords := by
  refine fun s => ⟨nofun, ⟨?_, ?_⟩, fun _ _ _ => step_of_decode_error⟩
  · rintro ⟨r, hr⟩
    refine (step_next_or_invalid s).resolve_left ?_
    rintro ⟨t, ht⟩
    cases hr.symm.trans ht
  · rintro ⟨w, rest, why, hq, hd⟩
    exact ⟨_, step_of_decode_error hq hd⟩

/-! ### The stimuli still to come (log 1) -/

theorem stimuli_of_effect {i : Instr} {s t : State} (h : Effect i s t) : t.stimuli = s.stimuli := by
  cases h with
  | tick => rw [advanceCarrier_eq]
  | tickCapture => rw [capture_eq, advanceCarrier_eq]
  | _ => rfl

/-- Settles O60: every effect leaves the list, that of `RESET` by the way it is written. -/
theorem stimuliStillToComeStay : Obligations.StimuliStillToComeStay :=
  ⟨exec_reset, fun _ _ _ h => stimuli_of_effect (effect_of_exec h)⟩

theorem exec_cmdStart_of_running {s : State} (h : s.pwmState = .running) : exec .cmdStart s = .next s := by
  simp [exec, execCmdStart, execCmdStartWith, h]

theorem exec_cmdStart_of_idle {s : State} (h : s.pwmState = .idle) :
    exec .cmdStart s = .next (raise .commandRejected s) := by
  simp [exec, execCmdStart, execCmdStartWith, h]

theorem exec_cmdStart_of_valid {s : State} (h : s.pwmState = .configuring) (hv : validConfig Config.params s = true) :
    exec .cmdStart s = .next (latchDuty { s with pwmState := .running, phase := 0 }) := by
  simp [exec, execCmdStart, execCmdStartWith, h, hv]

theorem exec_cmdStart_of_invalid {s : State} (h : s.pwmState = .configuring)
    (hv : validConfig Config.params s = false) : exec .cmdStart s = .next (raise .invalidConfig s) := by
  simp [exec, execCmdStart, execCmdStartWith, h, hv]

/-- A stimulus takes two states that differ in the list alone to two states that differ in the list alone: no guard and
no written value depends on it. -/
theorem exec_withStimuli {i : Instr} {s t : State} (rest : List StimulusWord) (h : exec i s = .next t) :
    exec i { s with stimuli := rest } = .next { t with stimuli := rest } := by
  cases effect_of_exec h with
  | wrPeriod _ _ hg | wrPwmcfg _ _ hg | wrDeadtime _ _ hg | tickIdle _ _ hg
  | wrOutMinRejected _ _ hg | wrOutMaxRejected _ _ hg => exact if_neg hg
  | wrPeriodRejected _ _ hg | wrPwmcfgRejected _ _ hg | wrDeadtimeRejected _ _ hg | configureRejected _ hg
  | wrOutMin _ _ hg | wrOutMax _ _ hg | arm _ hg | update _ hg => exact if_pos hg
  | armRejected _ hg | updateIdle _ hg => exact if_neg (Bool.eq_false_iff.1 hg)
  | configure _ hg hv => exact (if_neg hg).trans (if_pos hv)
  | configureInvalid _ hg hv => exact (if_neg hg).trans (if_neg (Bool.eq_false_iff.1 hv))
  | start _ hg hv => exact exec_cmdStart_of_valid hg hv
  | startInvalid _ hg hv => exact exec_cmdStart_of_invalid hg hv
  | startRunning _ hg => exact exec_cmdStart_of_running hg
  | startRejected _ hg => exact exec_cmdStart_of_idle hg
  | stop _ hg => exact exec_cmdStop_of_ne_idle hg
  | stopIdle _ hg => exact exec_cmdStop_of_idle hg
  | tick raw _ hr | tickCapture raw _ hr =>
    have e := h.symm.trans (execTick_running raw s hr)
    injection e with e
    rw [e]
    exact execTick_running raw { s with stimuli := rest } hr
  | _ => rfl

/-! ### A list of stimuli (R67) -/

/-- With the word of a well-formed stimulus next, a step is that stimulus, whatever stands behind it. -/
theorem step_encoded {i : Instr} {s t : State} (hwf : i.wellFormed = true) (rest : List StimulusWord)
    (h : exec i (lowerOutputs s) = .next t) :
    step { s with stimuli := encode i :: rest } = .next { t with stimuli := rest } :=
  (step_of_decode_ok rfl (decode_encode hwf)).trans (exec_withStimuli (s := lowerOutputs s) rest h)

theorem run_succ_of_step {M : Host.Core} {s t : M.State} (n : Nat) (h : M.step s = .next t) :
    M.run (n + 1) s = M.run n t := by
  rw [Host.Core.run, h]

/-- Settles O12, by induction on the list: a stimulus leaves the list to those behind it. -/
theorem queuedStimuliRunInOrder : Obligations.QueuedStimuliRunInOrder := by
  intro is rest
  induction is with
  | nil =>
    intro s t _ h
    cases h
    rfl
  | cons i is ih =>
    intro s t hwf h
    obtain ⟨hi, his⟩ := List.forall_mem_cons.1 hwf
    obtain ⟨u, hu, hrest⟩ := execSeq_cons h
    have hqueue : u.stimuli = rest := stimuli_of_effect (effect_of_exec hu)
    have hself : { u with stimuli := rest } = u := by rw [← hqueue]
    rw [← hself] at hrest
    have hstep := step_encoded hi (is.map encode ++ rest) hu
    exact (run_succ_of_step is.length hstep).trans (ih u t his hrest)

end Sys2Proof.Machine

/-! PROOFS. What the spec derives about the arithmetic and the update: the two ways to add a product (40_fpuq.md R111), the
room of the accumulator (R112), the anti-windup bound (43_engine.md R160) and the equilibrium (R162). -/

namespace Sys2Proof.Machine

/-! ### Accumulated and rounded products (R111) -/

theorem mac_of_mem {a b acc : Int} (hlow : -2147483648 ≤ acc + a * b) (hhigh : acc + a * b ≤ 2147483647) :
    mac a b acc = (acc + a * b, false) :=
  (mac_eq_clamp a b acc).trans (clamp_of_mem hlow hhigh)

/-- Settles O48: `mac` adds the exact product, `mul` its rounding, but in the corner of the Q15 square. -/
theorem macDiffersFromMulByOneUnit : Obligations.MacDiffersFromMulByOneUnit := by
  intro a b acc ha1 ha2 hb1 hb2 hlow hhigh
  rw [mac_of_mem hlow hhigh]
  by_cases hcorner : a = -32768 ∧ b = -32768
  · obtain ⟨rfl, rfl⟩ := hcorner
    rw [mul_corner, toAcc_eq]
    exact ⟨nofun, fun _ => by omega⟩
  · obtain ⟨-, heq⟩ := mul_of_not_corner ⟨ha1, ha2⟩ ⟨hb1, hb2⟩ hcorner
    obtain ⟨hremLow, hremHigh⟩ := rndShr_remainder (k := 15) (by decide) (a * b)
    rw [heq, toAcc_eq]
    norm_num only at hremLow hremHigh
    refine ⟨fun _ => ⟨?_, ?_⟩, nofun⟩ <;> dsimp only <;> omega

/-! ### The accumulator's room (R112) -/

/-- From an accumulator inside scaled Q15 bounds an exact product leaves one unit of room on both sides. -/
theorem accumulated_range {a b acc : Int} (ha : -32768 ≤ a ∧ a ≤ 32767) (hb : -32768 ≤ b ∧ b ≤ 32767)
    (hlow : -1073741824 ≤ acc) (hhigh : acc ≤ 1073709056) :
    -2147483648 + 32768 ≤ acc + a * b ∧ acc + a * b ≤ 2147483648 - 32768 := by
  obtain ⟨hprodLow, hprodHigh⟩ := product_range ha hb
  constructor <;> omega

theorem mac_not_saturated {a b acc : Int} (ha : -32768 ≤ a ∧ a ≤ 32767) (hb : -32768 ≤ b ∧ b ≤ 32767)
    (hlow : -1073741824 ≤ acc) (hhigh : acc ≤ 1073709056) : (mac a b acc).2 = false := by
  obtain ⟨hsumLow, hsumHigh⟩ := accumulated_range ha hb hlow hhigh
  rw [mac_of_mem (by omega) (by omega)]

/-- The integrator is inside scaled Q15 bounds: those of the engine once an update has run, and 0 before. -/
theorem integ_range {s : State} (hengine : EngineInv s) (hbefore : BeforeUpdateInv s) :
    -1073741824 ≤ s.integ.toInt ∧ s.integ.toInt ≤ 1073709056 := by
  by_cases hr : s.engState = .running
  · obtain ⟨hlow, hhigh⟩ := hengine.2 hr
    obtain ⟨hmin, -⟩ := toAcc_range (toInt_range s.outMin).1 (toInt_range s.outMin).2
    obtain ⟨-, hmax⟩ := toAcc_range (toInt_range s.outMax).1 (toInt_range s.outMax).2
    exact ⟨hmin.trans hlow, hhigh.trans hmax⟩
  · obtain ⟨hzero, -⟩ := hbefore hr
    rw [hzero]
    decide

theorem updateError_range (p : Config.Params) (s : State) : -32768 ≤ updateError p s ∧ updateError p s ≤ 32767 :=
  clamp_mem (by decide)

/-- Settles O49: the product leaves room, and the integrator is inside scaled bounds. -/
theorem accumulatorNeverOverflows : Obligations.AccumulatorNeverOverflows := by
  refine ⟨fun a b acc ha1 ha2 hb1 hb2 hlow hhigh => ?_, fun s hinv => ?_⟩
  · obtain ⟨hsumLow, hsumHigh⟩ := accumulated_range ⟨ha1, ha2⟩ ⟨hb1, hb2⟩ hlow hhigh
    exact ⟨hsumLow, hsumHigh, mac_not_saturated ⟨ha1, ha2⟩ ⟨hb1, hb2⟩ hlow hhigh⟩
  · obtain ⟨-, hengine, hbefore, -⟩ := hinv
    obtain ⟨hlow, hhigh⟩ := integ_range hengine hbefore
    exact mac_not_saturated (updateError_range Config.params s) (toInt_range s.ki) hlow hhigh

/-! ### The anti-windup bound (R160) -/

theorem bounds_ordered_of_updateReq {s : State} (hengine : EngineInv s) (hreq : updateReq s = true) :
    s.outMin.toInt ≤ s.outMax.toInt := by
  obtain ⟨-, hne⟩ := (updateReq_iff s).1 hreq
  exact (hengine.1 hne).2

/-- After an update that runs the integrator register lies between the scaled bounds, which the update keeps. -/
theorem applyUpdate_integ_mem (p : Config.Params) {s : State} (h : s.outMin.toInt ≤ s.outMax.toInt) :
    toAcc (applyUpdate p s).outMin.toInt ≤ (applyUpdate p s).integ.toInt
      ∧ (applyUpdate p s).integ.toInt ≤ toAcc (applyUpdate p s).outMax.toInt := by
  rw [applyUpdate_integ_toInt p h]
  exact updateInteg_mem p h

/-- Settles O42: the clamp of step 3, for any calibration, and ordered bounds from the invariant. -/
theorem integratorStaysInItsBounds : Obligations.IntegratorStaysInItsBounds := by
  refine ⟨fun p s t hbounds hreq h => ?_, fun s t hinv hreq h => ?_⟩
  · cases (if_pos hreq).symm.trans h
    obtain ⟨hlow, hhigh⟩ := applyUpdate_integ_mem p hbounds
    obtain ⟨hmin, hmax⟩ := fromAcc_mem hlow hhigh
    exact ⟨hlow, hhigh, hmin, hmax⟩
  · obtain ⟨-, hengine, -⟩ := hinv
    cases (exec_update_of_updateReq hreq).symm.trans h
    exact applyUpdate_integ_mem Config.params (bounds_ordered_of_updateReq hengine hreq)

/-! ### The equilibrium (R162) -/

/-- An error of 0 leaves the accumulator as it is. -/
theorem updateAccum_of_error_zero {p : Config.Params} {s : State} (he : updateError p s = 0) :
    updateAccum p s = (s.integ.toInt, false) := by
  have hlow := BitVec.le_toInt (x := s.integ)
  have hhigh := BitVec.toInt_lt (x := s.integ)
  rw [updateAccum, he]
  exact mac_of_mul_eq_zero (Int.zero_mul _) (by omega) (by omega)

/-- An error of 0 has no proportional term. -/
theorem updateProp_of_error_zero {p : Config.Params} {s : State} (he : updateError p s = 0) : updateProp p s = 0 := by
  rw [updateProp_eq, he, Int.zero_mul]
  decide

theorem updateInteg_of_error_zero {p : Config.Params} {s : State} (he : updateError p s = 0) :
    updateInteg p s = clamp s.integ.toInt (toAcc s.outMin.toInt) (toAcc s.outMax.toInt) := by
  rw [updateInteg, updateAccum_of_error_zero he]

/-- With an error of 0 the duty is the integrator alone. -/
theorem updateDuty_of_error_zero {p : Config.Params} {s : State} (he : updateError p s = 0) :
    updateDuty p s = sat (fromAcc (updateInteg p s).1) Config.W := by
  rw [updateDuty, updateRaw, updateProp_of_error_zero he, Int.zero_add]

/-- A second update with the error 0 finds the clamped integrator of the first, which its own clamp leaves alone. -/
theorem updateInteg_after_update {p : Config.Params} {s s' : State} (hbounds : s.outMin.toInt ≤ s.outMax.toInt)
    (hinteg : s'.integ = (applyUpdate p s).integ) (hmin : s'.outMin = s.outMin) (hmax : s'.outMax = s.outMax)
    (he : updateError p s' = 0) : (updateInteg p s').1 = (updateInteg p s).1 := by
  obtain ⟨hlow, hhigh⟩ := updateInteg_mem p hbounds
  rw [updateInteg_of_error_zero he, hinteg, hmin, hmax, applyUpdate_integ_toInt p hbounds, clamp_of_mem hlow hhigh]

/-- What an update writes to the integrator and the duty is fixed by its clamped integrator, its duty and the range. -/
theorem applyUpdate_congr {p : Config.Params} {s s' : State} (hinteg : (updateInteg p s').1 = (updateInteg p s).1)
    (hduty : updateDuty p s' = updateDuty p s) (hrange : carrierRange s' = carrierRange s) :
    (applyUpdate p s').integ = (applyUpdate p s).integ ∧ (applyUpdate p s').dutyOut = (applyUpdate p s).dutyOut
      ∧ (applyUpdate p s').dutyShadow = (applyUpdate p s).dutyShadow := by
  simp only [applyUpdate_eq, updateTicks, hinteg, hduty, hrange, and_self]

/-- Settles O43: with the error 0 the duty is a function of the clamped integrator, which the second update finds
unchanged. -/
theorem equilibriumIsReachedAtOnce : Obligations.EquilibriumIsReachedAtOnce := by
  intro s t hinv hreq he h
  obtain ⟨-, hengine, -⟩ := hinv
  have hbounds := bounds_ordered_of_updateReq hengine hreq
  cases (exec_update_of_updateReq hreq).symm.trans h
  refine ⟨updateAccum_of_error_zero he, updateProp_of_error_zero he, ?_, ?_⟩
  · rw [applyUpdate_dutyOut_toInt, updateDuty_of_error_zero he, updateInteg_of_error_zero he]
  · intro s' u hinteg hmin hmax hperiod hmode hreq' he' h'
    cases (exec_update_of_updateReq hreq').symm.trans h'
    have hclamped := updateInteg_after_update hbounds hinteg hmin hmax he'
    have hrange : carrierRange s' = carrierRange s := by
      rw [carrierRange, hmode, hperiod]
      rfl
    have hduty : updateDuty Config.params s' = updateDuty Config.params s := by
      rw [updateDuty_of_error_zero he', hclamped, ← updateDuty_of_error_zero he]
    exact applyUpdate_congr hclamped hduty hrange

end Sys2Proof.Machine

/-! PROOFS. The carrier (41_waveform.md R129 to R133): when the active duty changes, the state machine, and that the
trigger fires once in every carrier period. -/

namespace Sys2Proof.Machine

/-! ### The duty latch (R129) -/

/-- The period boundaries: a rollover, and a `CMD START` that starts the carrier. -/
def PeriodBoundary (i : Instr) (s : State) : Prop :=
  rolloverTick i s = true ∨ (i = .cmdStart ∧ s.pwmState = .configuring ∧ validConfig Config.params s = true)

theorem rolloverTick_tick {s : State} (raw : RawWord) (hrun : s.pwmState = .running) :
    rolloverTick (.tick raw) s = rollsOver s := by
  simp [rolloverTick, isTick, hrun]

theorem dutyActive_of_start {s t : State} (h : exec .cmdStart s = .next t) (hc : s.pwmState = .configuring)
    (hv : validConfig Config.params s = true) : t.dutyActive.toNat = min s.dutyShadow.toNat (carrierRange s) := by
  cases (exec_cmdStart_of_valid hc hv).symm.trans h
  exact latchDuty_toNat { s with pwmState := .running, phase := 0 }

/-- Between period boundaries nothing but `RESET` writes the active duty. -/
theorem dutyActive_of_not_boundary {i : Instr} {s t : State} (h : Effect i s t) (hn : ¬PeriodBoundary i s)
    (hr : i ≠ .reset) : t.dutyActive = s.dutyActive := by
  cases h with
  | start _ hc hv => exact absurd (.inr ⟨rfl, hc, hv⟩) hn
  | reset => exact absurd rfl hr
  | tick raw _ hrun =>
    rw [PeriodBoundary, rolloverTick_tick raw hrun, not_or, Bool.not_eq_true] at hn
    rw [advanceCarrier_eq, hn.1]
    rfl
  | tickCapture raw _ hrun =>
    rw [PeriodBoundary, rolloverTick_tick raw hrun, not_or, Bool.not_eq_true] at hn
    rw [capture_eq, advanceCarrier_eq, hn.1]
    rfl
  | _ => rfl

/-- Settles O27: both kinds of boundary latch the shadowed duty, and nothing else writes the active one. -/
theorem dutyLatchesOnlyAtPeriodBoundaries : Obligations.DutyLatchesOnlyAtPeriodBoundaries := by
  intro i s t h
  have hkept := dutyActive_of_not_boundary (effect_of_exec h)
  refine ⟨?_, fun hroll hstart => hkept (by simp [PeriodBoundary, hroll, hstart]), ?_⟩
  · rintro (hroll | ⟨rfl, hc, hv⟩)
    · exact dutyActive_of_rollover h hroll
    · exact dutyActive_of_start h hc hv
  · rintro rfl hn
    exact hkept (by simpa [PeriodBoundary, rolloverTick, isTick] using hn) (by decide)

/-! ### The state machine (R132) -/

/-- Settles O29: only the three carrier commands and `RESET` write `PWM_STATE`. -/
theorem waveformStateMachine : Obligations.WaveformStateMachine := by
  intro i s t h
  cases effect_of_exec h with
  | configure _ hn hv | configureInvalid _ hn hv =>
    cases hs : s.pwmState with
    | running => exact absurd hs hn
    | idle | configuring => simp [hv]
  | configureRejected _ hs | startRunning _ hs | startRejected _ hs => simp [hs]
  | start _ hs hv | startInvalid _ hs hv => simp [hs, hv]
  | stopIdle _ hs => exact hs
  | tick => rw [advanceCarrier_eq]
  | tickCapture => rw [capture_eq, advanceCarrier_eq]
  | _ => rfl

/-! ### The trigger in the carrier's period (R130) -/

/-- The next phase counts the ticks modulo the carrier range. -/
theorem nextPhase_eq_mod {s : State} (hp : s.phase.toNat < carrierRange s) :
    nextPhase s = (s.phase.toNat + 1) % carrierRange s := by
  rw [nextPhase_eq]
  split
  · next hle => rw [show s.phase.toNat + 1 = carrierRange s by omega, Nat.mod_self]
  · next hlt => rw [Nat.mod_eq_of_lt (by omega)]

/-- In both modes the tick fires that reaches the phase `PERIOD`, counted modulo the range: the rollover of an
edge-aligned carrier, the peak of a center-aligned one. -/
theorem fires_iff_mod {s : State} (hv : validConfig Config.params s = true) (hp : s.phase.toNat < carrierRange s) :
    fires s = true ↔ (s.phase.toNat + 1) % carrierRange s = s.period.toNat % carrierRange s := by
  obtain ⟨hpos, -, -⟩ := (validConfig_iff s).1 hv
  have hnext := nextPhase_eq_mod hp
  rcases fires_cases s with ⟨hm, hf⟩ | ⟨hm, hf⟩
  · have hrange := carrierRange_edge hm
    rw [hf, ← hnext, ← hrange, Nat.mod_self]
    rcases nextPhase_cases s with ⟨hr, e⟩ | ⟨hr, e⟩ <;> simp [hr, e]
  · have hrange := carrierRange_center hm
    rw [hf, decide_eq_true_eq, hnext, Nat.mod_eq_of_lt (a := s.period.toNat) (by omega)]

/-! ### Phase and rollovers along a sequence (R128) -/

/-- Each tick moves the phase by one, and each rollover takes one range off. -/
theorem phase_of_effect_running {i : Instr} {s t : State} (h : Effect i s t) (hinv : CarrierInv s)
    (hrun : s.pwmState = .running) (hstop : i ≠ .cmdStop) (hreset : i ≠ .reset) :
    t.phase.toNat + carrierRange s * (rolloverTick i s).toNat = s.phase.toNat + (isTick i).toNat := by
  obtain ⟨hv, hp, -⟩ := hinv.1 hrun
  have htick : (advanceCarrier s).phase.toNat + carrierRange s * (rollsOver s).toNat = s.phase.toNat + 1 := by
    rw [advanceCarrier_phase_toNat hv]
    rcases nextPhase_cases s with ⟨hr, e⟩ | ⟨hr, e⟩
    · have hle := (rollsOver_iff s).1 hr
      rw [hr, e, Bool.toNat_true]
      omega
    · rw [hr, e, Bool.toNat_false, Nat.mul_zero, Nat.add_zero]
  cases h with
  | wrPeriod _ _ hn | wrPwmcfg _ _ hn | wrDeadtime _ _ hn | configure _ hn | configureInvalid _ hn =>
    exact absurd hrun hn
  | start _ hc | startInvalid _ hc => simp [hrun] at hc
  | stop => exact absurd rfl hstop
  | reset => exact absurd rfl hreset
  | tickIdle _ _ hn => exact absurd hrun hn
  | tick raw =>
    rw [rolloverTick_tick raw hrun]
    exact htick
  | tickCapture raw =>
    rw [rolloverTick_tick raw hrun, capture_eq]
    exact htick
  | _ => rfl

theorem execSeq_answers (is : List Instr) (s : State) : ∃ t, execSeq is s = .next t := by
  induction is generalizing s with
  | nil => exact ⟨s, rfl⟩
  | cons i is ih =>
    obtain ⟨u, hu⟩ := exec_answers i (lowerOutputs s)
    rw [execSeq_cons_eq is hu]
    exact ih u

/-- A carrier that is Running, and what holds of it. -/
structure RunningCarrier (s : State) : Prop where
  inv : CarrierInv s
  running : s.pwmState = .running

theorem RunningCarrier.valid {s : State} (h : RunningCarrier s) : validConfig Config.params s = true :=
  (h.inv.1 h.running).1

theorem RunningCarrier.phase_lt {s : State} (h : RunningCarrier s) : s.phase.toNat < carrierRange s :=
  (h.inv.1 h.running).2.1

/-- Short of `CMD STOP` and `RESET` a stimulus leaves the carrier Running with its range and its period. -/
theorem RunningCarrier.of_effect {i : Instr} {s t : State} (hs : RunningCarrier s) (h : Effect i s t)
    (hstop : i ≠ .cmdStop) (hreset : i ≠ .reset) :
    RunningCarrier t ∧ carrierRange t = carrierRange s ∧ t.period = s.period := by
  obtain ⟨hrun, hmode, hperiod⟩ := carrier_of_effect_running h hs.running hstop hreset
  refine ⟨⟨carrierInv_of_effect h hs.inv, hrun⟩, ?_, hperiod⟩
  rw [carrierRange, hmode, hperiod]
  rfl

theorem RunningCarrier.lowered {s : State} (hs : RunningCarrier s) : RunningCarrier (lowerOutputs s) :=
  ⟨hs.inv, hs.running⟩

theorem rolloverCount_cons {i : Instr} {s u : State} (is : List Instr) (hu : exec i (lowerOutputs s) = .next u) :
    rolloverCount (i :: is) s = (rolloverTick i s).toNat + rolloverCount is u :=
  countWhere_cons rolloverTick is hu

/-- Along a sequence the carrier stays Running with its range and its period, and its phase and its rollovers account for
all the ticks. -/
theorem RunningCarrier.of_execSeq {is : List Instr} {s t : State} (hs : RunningCarrier s)
    (hkeep : keepsCarrier is = true) (h : execSeq is s = .next t) :
    RunningCarrier t ∧ t.period = s.period
      ∧ t.phase.toNat + carrierRange s * rolloverCount is s = s.phase.toNat + tickCount is := by
  induction is generalizing s with
  | nil =>
    cases h
    exact ⟨hs, rfl, rfl⟩
  | cons i is ih =>
    obtain ⟨u, hu, hrest⟩ := execSeq_cons h
    obtain ⟨⟨hstop, hreset⟩, hkeep⟩ := (keepsCarrier_cons i is).1 hkeep
    have heffect := effect_of_exec hu
    obtain ⟨hcarrier, (hrange : carrierRange u = carrierRange s), hperiod⟩ :=
      hs.lowered.of_effect heffect hstop hreset
    have hfirst : u.phase.toNat + carrierRange s * (rolloverTick i s).toNat = s.phase.toNat + (isTick i).toNat :=
      phase_of_effect_running (s := lowerOutputs s) heffect hs.lowered.inv hs.running hstop hreset
    obtain ⟨hlast, hperiod', hcount⟩ := ih hcarrier hkeep hrest
    refine ⟨hlast, hperiod'.trans hperiod, ?_⟩
    rw [hrange] at hcount
    rw [rolloverCount_cons is hu, tickCount_cons, Nat.mul_add]
    omega

/-! ### The trigger along a sequence (R133) -/

/-- After a sequence the next tick fires iff with it the ticks reach the phase `PERIOD`, counted modulo the range. -/
theorem RunningCarrier.fires_after_iff {is : List Instr} {s t : State} (hs : RunningCarrier s)
    (hkeep : keepsCarrier is = true) (h : execSeq is s = .next t) :
    fires t = true
      ↔ (s.phase.toNat + (tickCount is + 1)) % carrierRange s = s.period.toNat % carrierRange s := by
  obtain ⟨ht, hperiod, hcount⟩ := hs.of_execSeq hkeep h
  have hrange := carrierRange_of_execSeq hs.running hkeep h
  have hphase : s.phase.toNat + (tickCount is + 1) = t.phase.toNat + 1 + carrierRange s * rolloverCount is s := by
    omega
  rw [fires_iff_mod ht.valid ht.phase_lt, hrange, hperiod, hphase, Nat.add_mul_mod_self_left]

/-- A sequence of as many ticks as the range holds has one rollover, wherever in the period it begins. -/
theorem RunningCarrier.one_rollover {is : List Instr} {s : State} (hs : RunningCarrier s)
    (hkeep : keepsCarrier is = true) (hticks : tickCount is = carrierRange s) : rolloverCount is s = 1 := by
  obtain ⟨t, ht⟩ := execSeq_answers is s
  obtain ⟨hlast, -, hcount⟩ := hs.of_execSeq hkeep ht
  have hbefore := hs.phase_lt
  have hafter := hlast.phase_lt
  rw [carrierRange_of_execSeq hs.running hkeep ht] at hafter
  rw [hticks] at hcount
  have hsome : carrierRange s * 0 < carrierRange s * rolloverCount is s := by omega
  have hfew : carrierRange s * rolloverCount is s < carrierRange s * 2 := by omega
  have := Nat.lt_of_mul_lt_mul_left hsome
  have := Nat.lt_of_mul_lt_mul_left hfew
  omega

theorem tickCount_append (is js : List Instr) : tickCount (is ++ js) = tickCount is + tickCount js :=
  List.countP_append

theorem firingTick_tick_iff (raw : RawWord) (s : State) :
    firingTick (.tick raw) s = true ↔ s.pwmState = .running ∧ fires s = true := by
  simp [firingTick, isTick]

/-- After the firing of the trigger the phase stands at `PERIOD`, counted modulo the range. -/
theorem RunningCarrier.phase_of_firing {raw : RawWord} {s u : State} (hs : RunningCarrier s)
    (hfires : fires s = true) (h : exec (.tick raw) s = .next u) :
    u.phase.toNat = s.period.toNat % carrierRange s := by
  cases (execTick_running raw s hs.running).symm.trans h
  have hphase := advanceCarrier_phase_toNat hs.valid
  rw [advanceCarrier_eq] at hphase
  exact hphase.trans ((nextPhase_eq_mod hs.phase_lt).trans ((fires_iff_mod hs.valid hs.phase_lt).1 hfires))

/-- From one firing on, the next tick fires iff the ticks since are a multiple of the range. -/
theorem RunningCarrier.fires_again_iff {is : List Instr} {u t : State} (hu : RunningCarrier u)
    (hphase : u.phase.toNat = u.period.toNat % carrierRange u) (hkeep : keepsCarrier is = true)
    (h : execSeq is u = .next t) : fires t = true ↔ carrierRange u ∣ tickCount is + 1 := by
  rw [hu.fires_after_iff hkeep h, ← Nat.mod_mod u.period.toNat, ← hphase]
  exact Nat.add_modEq_left_iff

theorem runningCarrier_of_start {s u : State} (hc : s.pwmState = .configuring)
    (hv : validConfig Config.params s = true) (h : exec .cmdStart s = .next u) :
    RunningCarrier u ∧ carrierRange u = carrierRange s ∧ u.period = s.period ∧ u.phase.toNat = 0 := by
  cases (exec_cmdStart_of_valid hc hv).symm.trans h
  exact ⟨⟨carrierInv_start hv, rfl⟩, rfl, rfl, rfl⟩

/-- Settles O28: phases are counted modulo the range, and a firing is the phase `PERIOD`. -/
theorem triggerFiresOncePerCarrierPeriod : Obligations.TriggerFiresOncePerCarrierPeriod := by
  refine ⟨fun raw is s u t hinv hf hkeep hu ht => ?_, fun is s u t hc hv hkeep hu ht => ?_⟩
  · obtain ⟨hrun, hfires⟩ := (firingTick_tick_iff raw s).1 hf
    have hs : RunningCarrier s := ⟨hinv, hrun⟩
    obtain ⟨hcarrier, hrange, hperiod⟩ := hs.of_effect (effect_of_exec hu) (by simp) (by simp)
    have hphase := hs.phase_of_firing hfires hu
    rw [← hperiod, ← hrange] at hphase
    obtain ⟨hlast, -, -⟩ := hcarrier.of_execSeq hkeep ht
    rw [← hrange]
    refine ⟨hlast.running, carrierRange_of_execSeq hcarrier.running hkeep ht,
      hcarrier.fires_again_iff hphase hkeep ht, fun hticks last => ?_⟩
    exact hcarrier.one_rollover ((keepsCarrier_append is [.tick last]).2 ⟨hkeep, rfl⟩)
      ((tickCount_append is [.tick last]).trans hticks)
  · obtain ⟨hcarrier, hrange, hperiod, hphase⟩ := runningCarrier_of_start hc hv hu
    have hfires := hcarrier.fires_after_iff hkeep ht
    rwa [hphase, Nat.zero_add, hrange, hperiod] at hfires

end Sys2Proof.Machine

/-! PROOFS. The samples and the engine (42_sampler.md R143, R145, 43_engine.md R156): the ticks that capture nothing, the
sequences that serve every sample in time, and the engine's state machine. -/

namespace Sys2Proof.Machine

/-! ### Ticks that capture nothing (R143) -/

theorem exec_tick_of_not_capturing {raw : RawWord} {s : State} (h : capturingTick (.tick raw) s = false) :
    exec (.tick raw) s = .next (if s.pwmState = .running then advanceCarrier s else s) := by
  rcases execTick_cases raw s with ⟨hn, e⟩ | ⟨hr, -, e⟩ | ⟨hr, hc, -⟩
  · rw [if_neg hn]
    exact e
  · rw [if_pos hr]
    exact e
  · rw [capturingTick_tick raw hr, hc] at h
    cases h

/-- Settles O34: whether a tick captures does not depend on its operand, and if it does not, neither does the rest. -/
theorem uncapturedRawHasNoEffect : Obligations.UncapturedRawHasNoEffect := by
  intro r₁ r₂ s h
  have h₂ : capturingTick (.tick r₂) s = false := h
  rw [exec_tick_of_not_capturing h, exec_tick_of_not_capturing h₂]

/-! ### Samples served before the next firing (R145) -/

theorem keepsBlock_cons (i : Instr) (is : List Instr) :
    keepsBlock (i :: is) = true ↔ i ≠ .reset ∧ keepsBlock is = true := by
  simp [keepsBlock]

/-- The stimuli still to run do not reset the block, and let no sample wait at a firing. Since at most one sample is owed,
the number owed is the pending bit. -/
structure ServedBeforeFiring (is : List Instr) (s : State) : Prop where
  keeps : keepsBlock is = true
  served : servedBy firingTick s.samplePending.toNat is s

/-- No sample waits at a capture, since a capture is a firing. -/
theorem ServedBeforeFiring.not_pending_of_capture {i : Instr} {is : List Instr} {s : State}
    (h : ServedBeforeFiring (i :: is) s) (hc : capturingTick i s = true) : s.samplePending = false := by
  obtain ⟨u, hu⟩ := exec_answers i (lowerOutputs s)
  obtain ⟨howed, -⟩ := servedBy_cons h.served hu
  obtain ⟨hf, -⟩ := Bool.and_eq_true_iff.1 hc
  simpa using howed hf

theorem ServedBeforeFiring.tail {i : Instr} {is : List Instr} {s u : State} (h : ServedBeforeFiring (i :: is) s)
    (hu : exec i (lowerOutputs s) = .next u) : ServedBeforeFiring is u := by
  obtain ⟨hreset, hkeep⟩ := (keepsBlock_cons i is).1 h.keeps
  obtain ⟨-, hserved⟩ := servedBy_cons h.served hu
  rw [owedAfter_pending hu hreset h.not_pending_of_capture] at hserved
  exact ⟨hkeep, hserved⟩

theorem ServedBeforeFiring.of_append {before rest : List Instr} {s u : State}
    (h : ServedBeforeFiring (before ++ rest) s) (hu : execSeq before s = .next u) : ServedBeforeFiring rest u := by
  induction before generalizing s with
  | nil =>
    cases hu
    exact h
  | cons i before ih =>
    obtain ⟨v, hv, hrest⟩ := execSeq_cons hu
    exact ih (h.tail hv) hrest

/-- A stimulus that finds no sample waiting if it captures counts no miss. -/
theorem missed_of_capture_not_pending {i : Instr} {s t : State} (h : Effect i s t) (hreset : i ≠ .reset)
    (hcap : capturingTick i s = true → s.samplePending = false) : t.missed = s.missed := by
  cases hc : capturingTick i s with
  | true => exact missed_of_effect_not_pending h (hcap hc) hreset
  | false => exact (sample_of_effect_not_capturing h hc hreset).2

theorem ServedBeforeFiring.missed_eq {is : List Instr} {s t : State} (h : ServedBeforeFiring is s)
    (ht : execSeq is s = .next t) : t.missed = s.missed := by
  induction is generalizing s with
  | nil =>
    cases ht
    rfl
  | cons i is ih =>
    obtain ⟨u, hu, hrest⟩ := execSeq_cons ht
    obtain ⟨hreset, -⟩ := (keepsBlock_cons i is).1 h.keeps
    have hfirst : u.missed = s.missed :=
      missed_of_capture_not_pending (s := lowerOutputs s) (effect_of_exec hu) hreset h.not_pending_of_capture
    exact (ih (h.tail hu) hrest).trans hfirst

/-- Settles O32: at every point of the sequence the premise still holds of what is to come, so no capture finds a sample
waiting. -/
theorem noSampleIsMissedWhenEachIsServed : Obligations.NoSampleIsMissedWhenEachIsServed := by
  intro is s t _ hnone hkeep hserved ht
  have hstart : ServedBeforeFiring is s := by
    refine ⟨hkeep, ?_⟩
    rw [hnone]
    exact hserved
  refine ⟨hstart.missed_eq ht, ?_⟩
  rintro before after i u rfl hu
  exact (hstart.of_append hu).not_pending_of_capture

/-! ### The engine's state machine (R156) -/

/-- Settles O38: only `CMD ARM`, an `UPDATE` that runs and `RESET` write `ENG_STATE`. -/
theorem engineStateMachine : Obligations.EngineStateMachine := by
  intro i s t h
  have harm : canArm s = true
      ↔ s.engState = .uninitialized ∧ s.init.bits = 0b1111 ∧ s.outMin.toInt ≤ s.outMax.toInt := by
    rw [init_bits_eq_iff]
    exact canArm_iff s
  cases effect_of_exec h with
  | arm _ ha => exact (if_pos (harm.1 ha)).symm
  | armRejected _ ha => exact (if_neg (mt harm.2 (Bool.eq_false_iff.1 ha))).symm
  | update _ hreq => exact (if_pos ((updateReq_iff s).1 hreq)).symm
  | updateIdle _ hn => exact (if_neg (mt (updateReq_iff s).2 (Bool.eq_false_iff.1 hn))).symm
  | tick => rw [advanceCarrier_eq]
  | tickCapture => rw [capture_eq, advanceCarrier_eq]
  | _ => rfl

end Sys2Proof.Machine

/-! PROOFS. The block as a whole: what stays after reset (70_reset_and_hazards.md R221), who writes which register
(60_exceptions.md R202), and what decides nothing (10_state.md). -/

namespace Sys2Proof.Machine

/-! ### Ticks and updates after reset (R221) -/

/-- In the reset state the carrier is Idle and no update is requested, so neither a tick nor an update has an effect. -/
theorem exec_of_reset_state {i : Instr} (h : i.agent = .carrier ∨ i.agent = .dispatcher) :
    exec i (lowerOutputs State.reset) = .next State.reset := by
  cases i with
  | tick raw => rfl
  | update => rfl
  | _ => rcases h with h | h <;> cases h

/-- Settles O56, by induction on the sequence: the reset state has no outputs that could end. -/
theorem resetStateStaysUntilTheHostActs : Obligations.ResetStateStaysUntilTheHostActs := by
  refine ⟨rfl, fun is h => ?_⟩
  induction is with
  | nil => rfl
  | cons i is ih =>
    obtain ⟨hi, his⟩ := List.forall_mem_cons.1 h
    rw [execSeq_cons_eq is (exec_of_reset_state hi)]
    exact ih his

/-! ### One writer for each register (R202) -/

/-- An `UPDATE` writes the integrator, the duty, the flags of R159, the pending bit and the engine's state. -/
theorem update_frame {s t : State} (h : exec .update s = .next t) :
    t = { s with
      integ := t.integ, dutyOut := t.dutyOut, dutyShadow := t.dutyShadow
      sat := t.sat, satI := t.satI, satD := t.satD, satSticky := t.satSticky
      samplePending := t.samplePending, engState := t.engState } := by
  cases effect_of_exec h with
  | update => rfl
  | updateIdle => rfl

/-- A tick writes the carrier's phase, its outputs and, if it captures, the sampler. -/
theorem tick_frame {raw : RawWord} {s t : State} (h : exec (.tick raw) s = .next t) :
    t = { s with
      phase := t.phase, dutyActive := t.dutyActive, trigger := t.trigger
      rawSample := t.rawSample, samplePending := t.samplePending, missed := t.missed } := by
  cases effect_of_exec h with
  | tickIdle => rfl
  | tick => rw [advanceCarrier_eq]
  | tickCapture => rw [capture_eq, advanceCarrier_eq]

/-- The dispatcher issues `UPDATE` and nothing else (00_scope.md R6). -/
theorem eq_update_of_agent {i : Instr} (h : i.agent = .dispatcher) : i = .update := by
  cases i with
  | update => rfl
  | _ => cases h

/-- The carrier issues ticks and nothing else (00_scope.md R6). -/
theorem exists_tick_of_agent {i : Instr} (h : i.agent = .carrier) : ∃ raw, i = .tick raw := by
  cases i with
  | tick raw => exact ⟨raw, rfl⟩
  | _ => cases h

/-- Settles O57: of the host's stimuli by their effects, and for the other two agents by the frame of their stimulus. -/
theorem everyRegisterHasItsWriter : Obligations.EveryRegisterHasItsWriter := by
  intro i s t h
  refine ⟨fun hagent => ?_, fun hagent => ?_, fun hagent => ?_⟩
  · cases effect_of_exec h with
    | tickIdle | tick | tickCapture | update | updateIdle | reset => cases hagent
    | start =>
      exact ⟨rfl, rfl, rfl, rfl, rfl, rfl, rfl, rfl, rfl, fun hn => absurd rfl hn, fun hn => absurd rfl hn⟩
    | stop => exact ⟨rfl, rfl, rfl, rfl, rfl, rfl, rfl, rfl, rfl, fun _ => rfl, fun _ hn => absurd rfl hn⟩
    | _ => exact ⟨rfl, rfl, rfl, rfl, rfl, rfl, rfl, rfl, rfl, fun _ => rfl, fun _ _ => rfl⟩
  · cases eq_update_of_agent hagent
    rw [update_frame h]
    exact ⟨rfl, rfl, rfl, rfl, rfl, rfl, rfl, rfl, rfl, rfl, rfl, rfl, rfl, rfl, rfl, rfl, rfl, rfl, rfl, rfl⟩
  · obtain ⟨raw, rfl⟩ := exists_tick_of_agent hagent
    rw [tick_frame h]
    exact ⟨rfl, rfl, rfl, rfl, rfl, rfl, rfl, rfl, rfl, rfl, rfl, rfl, rfl, rfl, rfl, rfl, rfl, rfl, rfl, rfl, rfl, rfl,
      rfl, rfl⟩

/-! ### What decides nothing -/

/-- A stimulus runs on the deciding part of a state as it does on the state: no guard depends on what is blanked, and what
is written outside the blanked fields does not either. -/
theorem exec_decidingPart {i : Instr} {s t : State} (h : exec i s = .next t) :
    ∃ t', exec i (decidingPart s) = .next t' ∧ decidingPart t' = decidingPart t := by
  cases effect_of_exec h with
  | wrPeriod _ _ hg | wrPwmcfg _ _ hg | wrDeadtime _ _ hg | tickIdle _ _ hg
  | wrOutMinRejected _ _ hg | wrOutMaxRejected _ _ hg => exact ⟨_, if_neg hg, rfl⟩
  | wrPeriodRejected _ _ hg | wrPwmcfgRejected _ _ hg | wrDeadtimeRejected _ _ hg | configureRejected _ hg
  | wrOutMin _ _ hg | wrOutMax _ _ hg | arm _ hg | update _ hg => exact ⟨_, if_pos hg, rfl⟩
  | armRejected _ hg | updateIdle _ hg => exact ⟨_, if_neg (Bool.eq_false_iff.1 hg), rfl⟩
  | configure _ hg hv => exact ⟨_, (if_neg hg).trans (if_pos hv), rfl⟩
  | configureInvalid _ hg hv => exact ⟨_, (if_neg hg).trans (if_neg (Bool.eq_false_iff.1 hv)), rfl⟩
  | start _ hg hv => exact ⟨_, exec_cmdStart_of_valid hg hv, rfl⟩
  | startInvalid _ hg hv => exact ⟨_, exec_cmdStart_of_invalid hg hv, rfl⟩
  | startRunning _ hg => exact ⟨_, exec_cmdStart_of_running hg, rfl⟩
  | startRejected _ hg => exact ⟨_, exec_cmdStart_of_idle hg, rfl⟩
  | stop _ hg => exact ⟨_, exec_cmdStop_of_ne_idle hg, rfl⟩
  | stopIdle _ hg => exact ⟨_, exec_cmdStop_of_idle hg, rfl⟩
  | tick raw _ hr | tickCapture raw _ hr =>
    have e := h.symm.trans (execTick_running raw s hr)
    injection e with e
    rw [e]
    exact ⟨_, execTick_running raw (decidingPart s) hr, rfl⟩
  | _ => exact ⟨_, rfl, rfl⟩

/-- Settles O58: both states do what their common deciding part does. -/
theorem diagnosticsDecideNothing : Obligations.DiagnosticsDecideNothing := by
  intro i s s' hsame
  obtain ⟨t, ht⟩ := exec_answers i s
  obtain ⟨t', ht'⟩ := exec_answers i s'
  obtain ⟨u, hu, htu⟩ := exec_decidingPart ht
  obtain ⟨u', hu', htu'⟩ := exec_decidingPart ht'
  rw [hsame] at hu
  cases hu.symm.trans hu'
  exact ⟨t, t', ht, ht', htu.symm.trans htu'⟩

end Sys2Proof.Machine
